-- ==== Sys2Proof/Word.lean ====
section
/-! DEFINITION. The word types of the Intel 8080A (00_scope.md R4): the 8-bit byte of registers, memory cells and
the data bus, and the 16-bit word of PC, SP, the register pairs and addresses. All arithmetic on them is unsigned
and modular (R11), which is BitVec's own. -/

namespace Sys2Proof

/-- An 8-bit register, memory cell or immediate (R4). -/
abbrev Byte := BitVec 8

/-- A 16-bit quantity: PC, SP, a register pair or an address (R4). -/
abbrev Word := BitVec 16

end Sys2Proof
end

