-- ==== Sys2Proof/Machine/Bits.lean ====
section
/-! DEFINITION. Halves of a 16-bit value (00_scope.md R7, `hi`, `lo`, `a : b`). Every place where a 16-bit value meets
byte-wide storage (R22, R51, R86) goes through these three. -/

namespace Sys2Proof.Machine

/-- `hi(v)`: bits 15:8 (R7). -/
def hiByte (v : Word) : Byte := v.extractLsb' 8 8

/-- `lo(v)`: bits 7:0 (R7). -/
def loByte (v : Word) : Byte := v.extractLsb' 0 8

/-- `h : l`, the first item in the high-order position (R7). -/
def joinBytes (h l : Byte) : Word := h ++ l

end Sys2Proof.Machine
end

