-- ==== Sys2Proof/Syntax.lean ====
section
/-! DEFINITION. The instructions: one constructor for each of the 256 rows of opcode_table.json, the 12 unlisted ones
included, each with the operand its bytes carry (30_encoding.md R81, R86). Then the operand kinds of the spec (R82 to
R85) and, for each form of R87 that a field of the opcode byte spells out into several rows, the function from the
field's values to the constructor. -/

namespace Sys2Proof

/-- The instructions, group by group. `data` is b2, `data16` and `addr` are b3 : b2, `port` is b2 (R86). -/
inductive Instr where
  -- 41_data_transfer.md
  | movBB
  | movBC
  | movBD
  | movBE
  | movBH
  | movBL
  | movBA
  | movCB
  | movCC
  | movCD
  | movCE
  | movCH
  | movCL
  | movCA
  | movDB
  | movDC
  | movDD
  | movDE
  | movDH
  | movDL
  | movDA
  | movEB
  | movEC
  | movED
  | movEE
  | movEH
  | movEL
  | movEA
  | movHB
  | movHC
  | movHD
  | movHE
  | movHH
  | movHL
  | movHA
  | movLB
  | movLC
  | movLD
  | movLE
  | movLH
  | movLL
  | movLA
  | movAB
  | movAC
  | movAD
  | movAE
  | movAH
  | movAL
  | movAA
  | movMB
  | movMC
  | movMD
  | movME
  | movMH
  | movML
  | movMA
  | movBM
  | movCM
  | movDM
  | movEM
  | movHM
  | movLM
  | movAM
  | mviB (data : Byte)
  | mviC (data : Byte)
  | mviD (data : Byte)
  | mviE (data : Byte)
  | mviH (data : Byte)
  | mviL (data : Byte)
  | mviA (data : Byte)
  | mviM (data : Byte)
  | lxiB (data16 : Word)
  | lxiD (data16 : Word)
  | lxiH (data16 : Word)
  | lxiSP (data16 : Word)
  | lda (addr : Word)
  | sta (addr : Word)
  | lhld (addr : Word)
  | shld (addr : Word)
  | ldaxB
  | ldaxD
  | staxB
  | staxD
  | xchg
  -- 42_arithmetic.md
  | addB
  | addC
  | addD
  | addE
  | addH
  | addL
  | addA
  | addM
  | adi (data : Byte)
  | adcB
  | adcC
  | adcD
  | adcE
  | adcH
  | adcL
  | adcA
  | adcM
  | aci (data : Byte)
  | subB
  | subC
  | subD
  | subE
  | subH
  | subL
  | subA
  | subM
  | sui (data : Byte)
  | sbbB
  | sbbC
  | sbbD
  | sbbE
  | sbbH
  | sbbL
  | sbbA
  | sbbM
  | sbi (data : Byte)
  | inrB
  | inrC
  | inrD
  | inrE
  | inrH
  | inrL
  | inrA
  | inrM
  | dcrB
  | dcrC
  | dcrD
  | dcrE
  | dcrH
  | dcrL
  | dcrA
  | dcrM
  | inxB
  | inxD
  | inxH
  | inxSP
  | dcxB
  | dcxD
  | dcxH
  | dcxSP
  | dadB
  | dadD
  | dadH
  | dadSP
  | daa
  -- 43_logical.md
  | anaB
  | anaC
  | anaD
  | anaE
  | anaH
  | anaL
  | anaA
  | anaM
  | ani (data : Byte)
  | xraB
  | xraC
  | xraD
  | xraE
  | xraH
  | xraL
  | xraA
  | xraM
  | xri (data : Byte)
  | oraB
  | oraC
  | oraD
  | oraE
  | oraH
  | oraL
  | oraA
  | oraM
  | ori (data : Byte)
  | cmpB
  | cmpC
  | cmpD
  | cmpE
  | cmpH
  | cmpL
  | cmpA
  | cmpM
  | cpi (data : Byte)
  | rlc
  | rrc
  | ral
  | rar
  | cma
  | cmc
  | stc
  -- 44_branch.md
  | jmp (addr : Word)
  | jnz (addr : Word)
  | jz (addr : Word)
  | jnc (addr : Word)
  | jc (addr : Word)
  | jpo (addr : Word)
  | jpe (addr : Word)
  | jp (addr : Word)
  | jm (addr : Word)
  | call (addr : Word)
  | cnz (addr : Word)
  | cz (addr : Word)
  | cnc (addr : Word)
  | cc (addr : Word)
  | cpo (addr : Word)
  | cpe (addr : Word)
  | cp (addr : Word)
  | cm (addr : Word)
  | ret
  | rnz
  | rz
  | rnc
  | rc
  | rpo
  | rpe
  | rp
  | rm
  | rst0
  | rst1
  | rst2
  | rst3
  | rst4
  | rst5
  | rst6
  | rst7
  | pchl
  -- 30_encoding.md R92: the 12 first bytes that neither source lists
  | unlisted08
  | unlisted10
  | unlisted18
  | unlisted20
  | unlisted28
  | unlisted30
  | unlisted38
  | unlistedCB (addr : Word)
  | unlistedD9
  | unlistedDD (addr : Word)
  | unlistedED (addr : Word)
  | unlistedFD (addr : Word)
  -- 45_stack_io_control.md
  | inPort (port : Byte)
  | outPort (port : Byte)
  | pushB
  | pushD
  | pushH
  | pushPSW
  | popB
  | popD
  | popH
  | popPSW
  | xthl
  | sphl
  | ei
  | di
  | hlt
  | nop
deriving DecidableEq, Repr

/-- An octal digit: the value of a 3-bit field of the opcode byte (R82), in the numbering of R83, R85 and `nnn`. -/
inductive Octal where
  | o0 | o1 | o2 | o3 | o4 | o5 | o6 | o7
deriving DecidableEq, Repr

/-- The digit as a number. -/
def Octal.toNat : Octal → Nat
  | .o0 => 0
  | .o1 => 1
  | .o2 => 2
  | .o3 => 3
  | .o4 => 4
  | .o5 => 5
  | .o6 => 6
  | .o7 => 7

/-- The seven 8-bit registers (R21). -/
inductive Reg8 where
  | b | c | d | e | h | l | a
deriving DecidableEq, Repr

/-- The register pairs of LXI, DAD, INX and DCX (R22, R84). -/
inductive RegPair where
  | bc | de | hl | sp
deriving DecidableEq, Repr

/-- The pairs of LDAX and STAX (R84). -/
inductive PointerPair where
  | bc | de
deriving DecidableEq, Repr

/-- The pairs of PUSH and POP (R84). -/
inductive StackPair where
  | bc | de | hl | psw
deriving DecidableEq, Repr

/-- The conditions (R30, R85). -/
inductive Cond where
  | nz | z | nc | c | po | pe | p | m
deriving DecidableEq, Repr

/-- The second operand of an accumulator operation: a register, the byte at HL, or the immediate (R90 b). -/
inductive Operand8 where
  | reg (r : Reg8)
  | mem
  | imm (data : Byte)
deriving DecidableEq, Repr

/-- `MOV r1,r2` (R110). -/
def Instr.mov : Reg8 → Reg8 → Instr
  | .b, .b => .movBB
  | .b, .c => .movBC
  | .b, .d => .movBD
  | .b, .e => .movBE
  | .b, .h => .movBH
  | .b, .l => .movBL
  | .b, .a => .movBA
  | .c, .b => .movCB
  | .c, .c => .movCC
  | .c, .d => .movCD
  | .c, .e => .movCE
  | .c, .h => .movCH
  | .c, .l => .movCL
  | .c, .a => .movCA
  | .d, .b => .movDB
  | .d, .c => .movDC
  | .d, .d => .movDD
  | .d, .e => .movDE
  | .d, .h => .movDH
  | .d, .l => .movDL
  | .d, .a => .movDA
  | .e, .b => .movEB
  | .e, .c => .movEC
  | .e, .d => .movED
  | .e, .e => .movEE
  | .e, .h => .movEH
  | .e, .l => .movEL
  | .e, .a => .movEA
  | .h, .b => .movHB
  | .h, .c => .movHC
  | .h, .d => .movHD
  | .h, .e => .movHE
  | .h, .h => .movHH
  | .h, .l => .movHL
  | .h, .a => .movHA
  | .l, .b => .movLB
  | .l, .c => .movLC
  | .l, .d => .movLD
  | .l, .e => .movLE
  | .l, .h => .movLH
  | .l, .l => .movLL
  | .l, .a => .movLA
  | .a, .b => .movAB
  | .a, .c => .movAC
  | .a, .d => .movAD
  | .a, .e => .movAE
  | .a, .h => .movAH
  | .a, .l => .movAL
  | .a, .a => .movAA

/-- `MOV M,r2` (R111). -/
def Instr.movToM : Reg8 → Instr
  | .b => .movMB
  | .c => .movMC
  | .d => .movMD
  | .e => .movME
  | .h => .movMH
  | .l => .movML
  | .a => .movMA

/-- `MOV r1,M` (R112). -/
def Instr.movFromM : Reg8 → Instr
  | .b => .movBM
  | .c => .movCM
  | .d => .movDM
  | .e => .movEM
  | .h => .movHM
  | .l => .movLM
  | .a => .movAM

/-- `MVI r1,data` (R113). -/
def Instr.mvi : Reg8 → Byte → Instr
  | .b, data => .mviB data
  | .c, data => .mviC data
  | .d, data => .mviD data
  | .e, data => .mviE data
  | .h, data => .mviH data
  | .l, data => .mviL data
  | .a, data => .mviA data

/-- `LXI rp,data` (R115). -/
def Instr.lxi : RegPair → Word → Instr
  | .bc, data16 => .lxiB data16
  | .de, data16 => .lxiD data16
  | .hl, data16 => .lxiH data16
  | .sp, data16 => .lxiSP data16

/-- `LDAX rp` (R120). -/
def Instr.ldax : PointerPair → Instr
  | .bc => .ldaxB
  | .de => .ldaxD

/-- `STAX rp` (R121). -/
def Instr.stax : PointerPair → Instr
  | .bc => .staxB
  | .de => .staxD

/-- `ADD r`, `ADD M`, `ADI` (R132 to R134). -/
def Instr.add : Operand8 → Instr
  | .reg .b => .addB
  | .reg .c => .addC
  | .reg .d => .addD
  | .reg .e => .addE
  | .reg .h => .addH
  | .reg .l => .addL
  | .reg .a => .addA
  | .mem => .addM
  | .imm data => .adi data

/-- `ADC r`, `ADC M`, `ACI` (R135 to R137). -/
def Instr.adc : Operand8 → Instr
  | .reg .b => .adcB
  | .reg .c => .adcC
  | .reg .d => .adcD
  | .reg .e => .adcE
  | .reg .h => .adcH
  | .reg .l => .adcL
  | .reg .a => .adcA
  | .mem => .adcM
  | .imm data => .aci data

/-- `SUB r`, `SUB M`, `SUI` (R138 to R140). -/
def Instr.sub : Operand8 → Instr
  | .reg .b => .subB
  | .reg .c => .subC
  | .reg .d => .subD
  | .reg .e => .subE
  | .reg .h => .subH
  | .reg .l => .subL
  | .reg .a => .subA
  | .mem => .subM
  | .imm data => .sui data

/-- `SBB r`, `SBB M`, `SBI` (R141 to R143). -/
def Instr.sbb : Operand8 → Instr
  | .reg .b => .sbbB
  | .reg .c => .sbbC
  | .reg .d => .sbbD
  | .reg .e => .sbbE
  | .reg .h => .sbbH
  | .reg .l => .sbbL
  | .reg .a => .sbbA
  | .mem => .sbbM
  | .imm data => .sbi data

/-- `ANA r`, `ANA M`, `ANI` (R161 to R163). -/
def Instr.ana : Operand8 → Instr
  | .reg .b => .anaB
  | .reg .c => .anaC
  | .reg .d => .anaD
  | .reg .e => .anaE
  | .reg .h => .anaH
  | .reg .l => .anaL
  | .reg .a => .anaA
  | .mem => .anaM
  | .imm data => .ani data

/-- `XRA r`, `XRA M`, `XRI` (R164 to R166). -/
def Instr.xra : Operand8 → Instr
  | .reg .b => .xraB
  | .reg .c => .xraC
  | .reg .d => .xraD
  | .reg .e => .xraE
  | .reg .h => .xraH
  | .reg .l => .xraL
  | .reg .a => .xraA
  | .mem => .xraM
  | .imm data => .xri data

/-- `ORA r`, `ORA M`, `ORI` (R167 to R169). -/
def Instr.ora : Operand8 → Instr
  | .reg .b => .oraB
  | .reg .c => .oraC
  | .reg .d => .oraD
  | .reg .e => .oraE
  | .reg .h => .oraH
  | .reg .l => .oraL
  | .reg .a => .oraA
  | .mem => .oraM
  | .imm data => .ori data

/-- `CMP r`, `CMP M`, `CPI` (R170 to R172). -/
def Instr.cmp : Operand8 → Instr
  | .reg .b => .cmpB
  | .reg .c => .cmpC
  | .reg .d => .cmpD
  | .reg .e => .cmpE
  | .reg .h => .cmpH
  | .reg .l => .cmpL
  | .reg .a => .cmpA
  | .mem => .cmpM
  | .imm data => .cpi data

/-- `INR r` (R144). -/
def Instr.inr : Reg8 → Instr
  | .b => .inrB
  | .c => .inrC
  | .d => .inrD
  | .e => .inrE
  | .h => .inrH
  | .l => .inrL
  | .a => .inrA

/-- `DCR r` (R146). -/
def Instr.dcr : Reg8 → Instr
  | .b => .dcrB
  | .c => .dcrC
  | .d => .dcrD
  | .e => .dcrE
  | .h => .dcrH
  | .l => .dcrL
  | .a => .dcrA

/-- `INX rp` (R148). -/
def Instr.inx : RegPair → Instr
  | .bc => .inxB
  | .de => .inxD
  | .hl => .inxH
  | .sp => .inxSP

/-- `DCX rp` (R149). -/
def Instr.dcx : RegPair → Instr
  | .bc => .dcxB
  | .de => .dcxD
  | .hl => .dcxH
  | .sp => .dcxSP

/-- `DAD rp` (R150). -/
def Instr.dad : RegPair → Instr
  | .bc => .dadB
  | .de => .dadD
  | .hl => .dadH
  | .sp => .dadSP

/-- `Jcc addr` (R191). -/
def Instr.jumpIf : Cond → Word → Instr
  | .nz, addr => .jnz addr
  | .z, addr => .jz addr
  | .nc, addr => .jnc addr
  | .c, addr => .jc addr
  | .po, addr => .jpo addr
  | .pe, addr => .jpe addr
  | .p, addr => .jp addr
  | .m, addr => .jm addr

/-- `Ccc addr` (R193). -/
def Instr.callIf : Cond → Word → Instr
  | .nz, addr => .cnz addr
  | .z, addr => .cz addr
  | .nc, addr => .cnc addr
  | .c, addr => .cc addr
  | .po, addr => .cpo addr
  | .pe, addr => .cpe addr
  | .p, addr => .cp addr
  | .m, addr => .cm addr

/-- `Rcc` (R195). -/
def Instr.returnIf : Cond → Instr
  | .nz => .rnz
  | .z => .rz
  | .nc => .rnc
  | .c => .rc
  | .po => .rpo
  | .pe => .rpe
  | .p => .rp
  | .m => .rm

/-- `RST n` (R196). -/
def Instr.rst : Octal → Instr
  | .o0 => .rst0
  | .o1 => .rst1
  | .o2 => .rst2
  | .o3 => .rst3
  | .o4 => .rst4
  | .o5 => .rst5
  | .o6 => .rst6
  | .o7 => .rst7

/-- `PUSH rp` (R210, R211). -/
def Instr.push : StackPair → Instr
  | .bc => .pushB
  | .de => .pushD
  | .hl => .pushH
  | .psw => .pushPSW

/-- `POP rp` (R212, R213). -/
def Instr.pop : StackPair → Instr
  | .bc => .popB
  | .de => .popD
  | .hl => .popH
  | .psw => .popPSW

end Sys2Proof
end

