-- ==== Sys2Proof/Decode.lean ====
section
/-! DEFINITION. The decoder and the encoder (30_encoding.md). The decoder reads the opcode byte as R82 does: bits 7:6
choose one of four quadrants, bits 5:3 and 2:0 are two octal digits; each quadrant is one table of 64 rows, the grid of
R88. The encoder is written from the hexadecimal column of R87, not from the decoder. -/

namespace Sys2Proof

open Sys2Proof.Machine

/-- Three bits, the most significant first, as a digit. -/
def octalOf (b2 b1 b0 : Bool) : Octal :=
  match b2, b1, b0 with
  | false, false, false => .o0
  | false, false, true => .o1
  | false, true, false => .o2
  | false, true, true => .o3
  | true, false, false => .o4
  | true, false, true => .o5
  | true, true, false => .o6
  | true, true, true => .o7

/-- Bits 5:3 of the opcode byte: `ddd`, `ccc` or `nnn` (R82). -/
def midDigit (op : Byte) : Octal := octalOf (op.getLsbD 5) (op.getLsbD 4) (op.getLsbD 3)

/-- Bits 2:0 of the opcode byte: `sss` (R82). -/
def lowDigit (op : Byte) : Octal := octalOf (op.getLsbD 2) (op.getLsbD 1) (op.getLsbD 0)

/-- Quadrant 00: bits 7:6 = 00, the mixed group: rows 0x00 to 0x3F of R88. -/
def decodeQuadrant0 (mid low : Octal) (b2 b3 : Byte) : Instr :=
  match mid, low with
  | .o0, .o0 => .nop
  | .o0, .o1 => .lxiB (joinBytes b3 b2)
  | .o0, .o2 => .staxB
  | .o0, .o3 => .inxB
  | .o0, .o4 => .inrB
  | .o0, .o5 => .dcrB
  | .o0, .o6 => .mviB b2
  | .o0, .o7 => .rlc
  | .o1, .o0 => .unlisted08
  | .o1, .o1 => .dadB
  | .o1, .o2 => .ldaxB
  | .o1, .o3 => .dcxB
  | .o1, .o4 => .inrC
  | .o1, .o5 => .dcrC
  | .o1, .o6 => .mviC b2
  | .o1, .o7 => .rrc
  | .o2, .o0 => .unlisted10
  | .o2, .o1 => .lxiD (joinBytes b3 b2)
  | .o2, .o2 => .staxD
  | .o2, .o3 => .inxD
  | .o2, .o4 => .inrD
  | .o2, .o5 => .dcrD
  | .o2, .o6 => .mviD b2
  | .o2, .o7 => .ral
  | .o3, .o0 => .unlisted18
  | .o3, .o1 => .dadD
  | .o3, .o2 => .ldaxD
  | .o3, .o3 => .dcxD
  | .o3, .o4 => .inrE
  | .o3, .o5 => .dcrE
  | .o3, .o6 => .mviE b2
  | .o3, .o7 => .rar
  | .o4, .o0 => .unlisted20
  | .o4, .o1 => .lxiH (joinBytes b3 b2)
  | .o4, .o2 => .shld (joinBytes b3 b2)
  | .o4, .o3 => .inxH
  | .o4, .o4 => .inrH
  | .o4, .o5 => .dcrH
  | .o4, .o6 => .mviH b2
  | .o4, .o7 => .daa
  | .o5, .o0 => .unlisted28
  | .o5, .o1 => .dadH
  | .o5, .o2 => .lhld (joinBytes b3 b2)
  | .o5, .o3 => .dcxH
  | .o5, .o4 => .inrL
  | .o5, .o5 => .dcrL
  | .o5, .o6 => .mviL b2
  | .o5, .o7 => .cma
  | .o6, .o0 => .unlisted30
  | .o6, .o1 => .lxiSP (joinBytes b3 b2)
  | .o6, .o2 => .sta (joinBytes b3 b2)
  | .o6, .o3 => .inxSP
  | .o6, .o4 => .inrM
  | .o6, .o5 => .dcrM
  | .o6, .o6 => .mviM b2
  | .o6, .o7 => .stc
  | .o7, .o0 => .unlisted38
  | .o7, .o1 => .dadSP
  | .o7, .o2 => .lda (joinBytes b3 b2)
  | .o7, .o3 => .dcxSP
  | .o7, .o4 => .inrA
  | .o7, .o5 => .dcrA
  | .o7, .o6 => .mviA b2
  | .o7, .o7 => .cmc

/-- Quadrant 01: bits 7:6 = 01, MOV and HLT: rows 0x40 to 0x7F of R88. -/
def decodeQuadrant1 (mid low : Octal) : Instr :=
  match mid, low with
  | .o0, .o0 => .movBB
  | .o0, .o1 => .movBC
  | .o0, .o2 => .movBD
  | .o0, .o3 => .movBE
  | .o0, .o4 => .movBH
  | .o0, .o5 => .movBL
  | .o0, .o6 => .movBM
  | .o0, .o7 => .movBA
  | .o1, .o0 => .movCB
  | .o1, .o1 => .movCC
  | .o1, .o2 => .movCD
  | .o1, .o3 => .movCE
  | .o1, .o4 => .movCH
  | .o1, .o5 => .movCL
  | .o1, .o6 => .movCM
  | .o1, .o7 => .movCA
  | .o2, .o0 => .movDB
  | .o2, .o1 => .movDC
  | .o2, .o2 => .movDD
  | .o2, .o3 => .movDE
  | .o2, .o4 => .movDH
  | .o2, .o5 => .movDL
  | .o2, .o6 => .movDM
  | .o2, .o7 => .movDA
  | .o3, .o0 => .movEB
  | .o3, .o1 => .movEC
  | .o3, .o2 => .movED
  | .o3, .o3 => .movEE
  | .o3, .o4 => .movEH
  | .o3, .o5 => .movEL
  | .o3, .o6 => .movEM
  | .o3, .o7 => .movEA
  | .o4, .o0 => .movHB
  | .o4, .o1 => .movHC
  | .o4, .o2 => .movHD
  | .o4, .o3 => .movHE
  | .o4, .o4 => .movHH
  | .o4, .o5 => .movHL
  | .o4, .o6 => .movHM
  | .o4, .o7 => .movHA
  | .o5, .o0 => .movLB
  | .o5, .o1 => .movLC
  | .o5, .o2 => .movLD
  | .o5, .o3 => .movLE
  | .o5, .o4 => .movLH
  | .o5, .o5 => .movLL
  | .o5, .o6 => .movLM
  | .o5, .o7 => .movLA
  | .o6, .o0 => .movMB
  | .o6, .o1 => .movMC
  | .o6, .o2 => .movMD
  | .o6, .o3 => .movME
  | .o6, .o4 => .movMH
  | .o6, .o5 => .movML
  | .o6, .o6 => .hlt
  | .o6, .o7 => .movMA
  | .o7, .o0 => .movAB
  | .o7, .o1 => .movAC
  | .o7, .o2 => .movAD
  | .o7, .o3 => .movAE
  | .o7, .o4 => .movAH
  | .o7, .o5 => .movAL
  | .o7, .o6 => .movAM
  | .o7, .o7 => .movAA

/-- Quadrant 10: bits 7:6 = 10, the accumulator operations: rows 0x80 to 0xBF of R88. -/
def decodeQuadrant2 (mid low : Octal) : Instr :=
  match mid, low with
  | .o0, .o0 => .addB
  | .o0, .o1 => .addC
  | .o0, .o2 => .addD
  | .o0, .o3 => .addE
  | .o0, .o4 => .addH
  | .o0, .o5 => .addL
  | .o0, .o6 => .addM
  | .o0, .o7 => .addA
  | .o1, .o0 => .adcB
  | .o1, .o1 => .adcC
  | .o1, .o2 => .adcD
  | .o1, .o3 => .adcE
  | .o1, .o4 => .adcH
  | .o1, .o5 => .adcL
  | .o1, .o6 => .adcM
  | .o1, .o7 => .adcA
  | .o2, .o0 => .subB
  | .o2, .o1 => .subC
  | .o2, .o2 => .subD
  | .o2, .o3 => .subE
  | .o2, .o4 => .subH
  | .o2, .o5 => .subL
  | .o2, .o6 => .subM
  | .o2, .o7 => .subA
  | .o3, .o0 => .sbbB
  | .o3, .o1 => .sbbC
  | .o3, .o2 => .sbbD
  | .o3, .o3 => .sbbE
  | .o3, .o4 => .sbbH
  | .o3, .o5 => .sbbL
  | .o3, .o6 => .sbbM
  | .o3, .o7 => .sbbA
  | .o4, .o0 => .anaB
  | .o4, .o1 => .anaC
  | .o4, .o2 => .anaD
  | .o4, .o3 => .anaE
  | .o4, .o4 => .anaH
  | .o4, .o5 => .anaL
  | .o4, .o6 => .anaM
  | .o4, .o7 => .anaA
  | .o5, .o0 => .xraB
  | .o5, .o1 => .xraC
  | .o5, .o2 => .xraD
  | .o5, .o3 => .xraE
  | .o5, .o4 => .xraH
  | .o5, .o5 => .xraL
  | .o5, .o6 => .xraM
  | .o5, .o7 => .xraA
  | .o6, .o0 => .oraB
  | .o6, .o1 => .oraC
  | .o6, .o2 => .oraD
  | .o6, .o3 => .oraE
  | .o6, .o4 => .oraH
  | .o6, .o5 => .oraL
  | .o6, .o6 => .oraM
  | .o6, .o7 => .oraA
  | .o7, .o0 => .cmpB
  | .o7, .o1 => .cmpC
  | .o7, .o2 => .cmpD
  | .o7, .o3 => .cmpE
  | .o7, .o4 => .cmpH
  | .o7, .o5 => .cmpL
  | .o7, .o6 => .cmpM
  | .o7, .o7 => .cmpA

/-- Quadrant 11: bits 7:6 = 11: rows 0xC0 to 0xFF of R88. -/
def decodeQuadrant3 (mid low : Octal) (b2 b3 : Byte) : Instr :=
  match mid, low with
  | .o0, .o0 => .rnz
  | .o0, .o1 => .popB
  | .o0, .o2 => .jnz (joinBytes b3 b2)
  | .o0, .o3 => .jmp (joinBytes b3 b2)
  | .o0, .o4 => .cnz (joinBytes b3 b2)
  | .o0, .o5 => .pushB
  | .o0, .o6 => .adi b2
  | .o0, .o7 => .rst0
  | .o1, .o0 => .rz
  | .o1, .o1 => .ret
  | .o1, .o2 => .jz (joinBytes b3 b2)
  | .o1, .o3 => .unlistedCB (joinBytes b3 b2)
  | .o1, .o4 => .cz (joinBytes b3 b2)
  | .o1, .o5 => .call (joinBytes b3 b2)
  | .o1, .o6 => .aci b2
  | .o1, .o7 => .rst1
  | .o2, .o0 => .rnc
  | .o2, .o1 => .popD
  | .o2, .o2 => .jnc (joinBytes b3 b2)
  | .o2, .o3 => .outPort b2
  | .o2, .o4 => .cnc (joinBytes b3 b2)
  | .o2, .o5 => .pushD
  | .o2, .o6 => .sui b2
  | .o2, .o7 => .rst2
  | .o3, .o0 => .rc
  | .o3, .o1 => .unlistedD9
  | .o3, .o2 => .jc (joinBytes b3 b2)
  | .o3, .o3 => .inPort b2
  | .o3, .o4 => .cc (joinBytes b3 b2)
  | .o3, .o5 => .unlistedDD (joinBytes b3 b2)
  | .o3, .o6 => .sbi b2
  | .o3, .o7 => .rst3
  | .o4, .o0 => .rpo
  | .o4, .o1 => .popH
  | .o4, .o2 => .jpo (joinBytes b3 b2)
  | .o4, .o3 => .xthl
  | .o4, .o4 => .cpo (joinBytes b3 b2)
  | .o4, .o5 => .pushH
  | .o4, .o6 => .ani b2
  | .o4, .o7 => .rst4
  | .o5, .o0 => .rpe
  | .o5, .o1 => .pchl
  | .o5, .o2 => .jpe (joinBytes b3 b2)
  | .o5, .o3 => .xchg
  | .o5, .o4 => .cpe (joinBytes b3 b2)
  | .o5, .o5 => .unlistedED (joinBytes b3 b2)
  | .o5, .o6 => .xri b2
  | .o5, .o7 => .rst5
  | .o6, .o0 => .rp
  | .o6, .o1 => .popPSW
  | .o6, .o2 => .jp (joinBytes b3 b2)
  | .o6, .o3 => .di
  | .o6, .o4 => .cp (joinBytes b3 b2)
  | .o6, .o5 => .pushPSW
  | .o6, .o6 => .ori b2
  | .o6, .o7 => .rst6
  | .o7, .o0 => .rm
  | .o7, .o1 => .sphl
  | .o7, .o2 => .jm (joinBytes b3 b2)
  | .o7, .o3 => .ei
  | .o7, .o4 => .cm (joinBytes b3 b2)
  | .o7, .o5 => .unlistedFD (joinBytes b3 b2)
  | .o7, .o6 => .cpi b2
  | .o7, .o7 => .rst7

/-- The instruction whose bytes are `op`, `b2`, `b3` (R80, R86): the first byte alone selects it, and the operand
bytes it does not have do not matter. -/
def decodeBytes (op b2 b3 : Byte) : Instr :=
  match op.getLsbD 7, op.getLsbD 6 with
  | false, false => decodeQuadrant0 (midDigit op) (lowDigit op) b2 b3
  | false, true => decodeQuadrant1 (midDigit op) (lowDigit op)
  | true, false => decodeQuadrant2 (midDigit op) (lowDigit op)
  | true, true => decodeQuadrant3 (midDigit op) (lowDigit op) b2 b3

/-- The length in bytes, from the first byte (R89). The 12 unlisted values have no length in the sources: 0xCB, 0xDD,
0xED and 0xFD are read with the two operand bytes that the alternative of R92 gives them, the others alone. -/
def opcodeLength (op : Byte) : Nat :=
  if op &&& 0xCF#8 = 0x01#8 then 3
  else if op = 0x22#8 ∨ op = 0x2A#8 ∨ op = 0x32#8 ∨ op = 0x3A#8 then 3
  else if op &&& 0xC7#8 = 0xC2#8 then 3
  else if op = 0xC3#8 then 3
  else if op &&& 0xC7#8 = 0xC4#8 then 3
  else if op = 0xCD#8 then 3
  else if op = 0xCB#8 ∨ op = 0xDD#8 ∨ op = 0xED#8 ∨ op = 0xFD#8 then 3
  else if op &&& 0xC7#8 = 0x06#8 then 2
  else if op &&& 0xC7#8 = 0xC6#8 then 2
  else if op = 0xD3#8 ∨ op = 0xDB#8 then 2
  else 1

/-- Why the decoder rejects a list of bytes: every first byte is a row of the table, so only for want of bytes. -/
inductive DecodeError where
  /-- There is no byte. -/
  | noBytes
  /-- The list ends before the operand bytes that the first byte calls for. -/
  | truncated (op : Byte)
deriving DecidableEq, Repr

/-- The decoder: the first instruction of a list of bytes, and the bytes after it (R80, R81). -/
def decode (bytes : List Byte) : Except DecodeError (Instr × List Byte) :=
  match bytes with
  | [] => .error .noBytes
  | op :: rest =>
    if opcodeLength op = 3 then
      match rest with
      | b2 :: b3 :: tail => .ok (decodeBytes op b2 b3, tail)
      | _ => .error (.truncated op)
    else if opcodeLength op = 2 then
      match rest with
      | b2 :: tail => .ok (decodeBytes op b2 0#8, tail)
      | _ => .error (.truncated op)
    else .ok (decodeBytes op 0#8 0#8, rest)

/-- The bytes of an instruction, at ascending addresses (R81, R87): operand words low byte first (R86). -/
def encode (i : Instr) : List Byte :=
  match i with
  | .movBB => [0x40#8]
  | .movBC => [0x41#8]
  | .movBD => [0x42#8]
  | .movBE => [0x43#8]
  | .movBH => [0x44#8]
  | .movBL => [0x45#8]
  | .movBA => [0x47#8]
  | .movCB => [0x48#8]
  | .movCC => [0x49#8]
  | .movCD => [0x4A#8]
  | .movCE => [0x4B#8]
  | .movCH => [0x4C#8]
  | .movCL => [0x4D#8]
  | .movCA => [0x4F#8]
  | .movDB => [0x50#8]
  | .movDC => [0x51#8]
  | .movDD => [0x52#8]
  | .movDE => [0x53#8]
  | .movDH => [0x54#8]
  | .movDL => [0x55#8]
  | .movDA => [0x57#8]
  | .movEB => [0x58#8]
  | .movEC => [0x59#8]
  | .movED => [0x5A#8]
  | .movEE => [0x5B#8]
  | .movEH => [0x5C#8]
  | .movEL => [0x5D#8]
  | .movEA => [0x5F#8]
  | .movHB => [0x60#8]
  | .movHC => [0x61#8]
  | .movHD => [0x62#8]
  | .movHE => [0x63#8]
  | .movHH => [0x64#8]
  | .movHL => [0x65#8]
  | .movHA => [0x67#8]
  | .movLB => [0x68#8]
  | .movLC => [0x69#8]
  | .movLD => [0x6A#8]
  | .movLE => [0x6B#8]
  | .movLH => [0x6C#8]
  | .movLL => [0x6D#8]
  | .movLA => [0x6F#8]
  | .movAB => [0x78#8]
  | .movAC => [0x79#8]
  | .movAD => [0x7A#8]
  | .movAE => [0x7B#8]
  | .movAH => [0x7C#8]
  | .movAL => [0x7D#8]
  | .movAA => [0x7F#8]
  | .movMB => [0x70#8]
  | .movMC => [0x71#8]
  | .movMD => [0x72#8]
  | .movME => [0x73#8]
  | .movMH => [0x74#8]
  | .movML => [0x75#8]
  | .movMA => [0x77#8]
  | .movBM => [0x46#8]
  | .movCM => [0x4E#8]
  | .movDM => [0x56#8]
  | .movEM => [0x5E#8]
  | .movHM => [0x66#8]
  | .movLM => [0x6E#8]
  | .movAM => [0x7E#8]
  | .mviB data => [0x06#8, data]
  | .mviC data => [0x0E#8, data]
  | .mviD data => [0x16#8, data]
  | .mviE data => [0x1E#8, data]
  | .mviH data => [0x26#8, data]
  | .mviL data => [0x2E#8, data]
  | .mviA data => [0x3E#8, data]
  | .mviM data => [0x36#8, data]
  | .lxiB data16 => [0x01#8, loByte data16, hiByte data16]
  | .lxiD data16 => [0x11#8, loByte data16, hiByte data16]
  | .lxiH data16 => [0x21#8, loByte data16, hiByte data16]
  | .lxiSP data16 => [0x31#8, loByte data16, hiByte data16]
  | .lda addr => [0x3A#8, loByte addr, hiByte addr]
  | .sta addr => [0x32#8, loByte addr, hiByte addr]
  | .lhld addr => [0x2A#8, loByte addr, hiByte addr]
  | .shld addr => [0x22#8, loByte addr, hiByte addr]
  | .ldaxB => [0x0A#8]
  | .ldaxD => [0x1A#8]
  | .staxB => [0x02#8]
  | .staxD => [0x12#8]
  | .xchg => [0xEB#8]
  | .addB => [0x80#8]
  | .addC => [0x81#8]
  | .addD => [0x82#8]
  | .addE => [0x83#8]
  | .addH => [0x84#8]
  | .addL => [0x85#8]
  | .addA => [0x87#8]
  | .addM => [0x86#8]
  | .adi data => [0xC6#8, data]
  | .adcB => [0x88#8]
  | .adcC => [0x89#8]
  | .adcD => [0x8A#8]
  | .adcE => [0x8B#8]
  | .adcH => [0x8C#8]
  | .adcL => [0x8D#8]
  | .adcA => [0x8F#8]
  | .adcM => [0x8E#8]
  | .aci data => [0xCE#8, data]
  | .subB => [0x90#8]
  | .subC => [0x91#8]
  | .subD => [0x92#8]
  | .subE => [0x93#8]
  | .subH => [0x94#8]
  | .subL => [0x95#8]
  | .subA => [0x97#8]
  | .subM => [0x96#8]
  | .sui data => [0xD6#8, data]
  | .sbbB => [0x98#8]
  | .sbbC => [0x99#8]
  | .sbbD => [0x9A#8]
  | .sbbE => [0x9B#8]
  | .sbbH => [0x9C#8]
  | .sbbL => [0x9D#8]
  | .sbbA => [0x9F#8]
  | .sbbM => [0x9E#8]
  | .sbi data => [0xDE#8, data]
  | .inrB => [0x04#8]
  | .inrC => [0x0C#8]
  | .inrD => [0x14#8]
  | .inrE => [0x1C#8]
  | .inrH => [0x24#8]
  | .inrL => [0x2C#8]
  | .inrA => [0x3C#8]
  | .inrM => [0x34#8]
  | .dcrB => [0x05#8]
  | .dcrC => [0x0D#8]
  | .dcrD => [0x15#8]
  | .dcrE => [0x1D#8]
  | .dcrH => [0x25#8]
  | .dcrL => [0x2D#8]
  | .dcrA => [0x3D#8]
  | .dcrM => [0x35#8]
  | .inxB => [0x03#8]
  | .inxD => [0x13#8]
  | .inxH => [0x23#8]
  | .inxSP => [0x33#8]
  | .dcxB => [0x0B#8]
  | .dcxD => [0x1B#8]
  | .dcxH => [0x2B#8]
  | .dcxSP => [0x3B#8]
  | .dadB => [0x09#8]
  | .dadD => [0x19#8]
  | .dadH => [0x29#8]
  | .dadSP => [0x39#8]
  | .daa => [0x27#8]
  | .anaB => [0xA0#8]
  | .anaC => [0xA1#8]
  | .anaD => [0xA2#8]
  | .anaE => [0xA3#8]
  | .anaH => [0xA4#8]
  | .anaL => [0xA5#8]
  | .anaA => [0xA7#8]
  | .anaM => [0xA6#8]
  | .ani data => [0xE6#8, data]
  | .xraB => [0xA8#8]
  | .xraC => [0xA9#8]
  | .xraD => [0xAA#8]
  | .xraE => [0xAB#8]
  | .xraH => [0xAC#8]
  | .xraL => [0xAD#8]
  | .xraA => [0xAF#8]
  | .xraM => [0xAE#8]
  | .xri data => [0xEE#8, data]
  | .oraB => [0xB0#8]
  | .oraC => [0xB1#8]
  | .oraD => [0xB2#8]
  | .oraE => [0xB3#8]
  | .oraH => [0xB4#8]
  | .oraL => [0xB5#8]
  | .oraA => [0xB7#8]
  | .oraM => [0xB6#8]
  | .ori data => [0xF6#8, data]
  | .cmpB => [0xB8#8]
  | .cmpC => [0xB9#8]
  | .cmpD => [0xBA#8]
  | .cmpE => [0xBB#8]
  | .cmpH => [0xBC#8]
  | .cmpL => [0xBD#8]
  | .cmpA => [0xBF#8]
  | .cmpM => [0xBE#8]
  | .cpi data => [0xFE#8, data]
  | .rlc => [0x07#8]
  | .rrc => [0x0F#8]
  | .ral => [0x17#8]
  | .rar => [0x1F#8]
  | .cma => [0x2F#8]
  | .cmc => [0x3F#8]
  | .stc => [0x37#8]
  | .jmp addr => [0xC3#8, loByte addr, hiByte addr]
  | .jnz addr => [0xC2#8, loByte addr, hiByte addr]
  | .jz addr => [0xCA#8, loByte addr, hiByte addr]
  | .jnc addr => [0xD2#8, loByte addr, hiByte addr]
  | .jc addr => [0xDA#8, loByte addr, hiByte addr]
  | .jpo addr => [0xE2#8, loByte addr, hiByte addr]
  | .jpe addr => [0xEA#8, loByte addr, hiByte addr]
  | .jp addr => [0xF2#8, loByte addr, hiByte addr]
  | .jm addr => [0xFA#8, loByte addr, hiByte addr]
  | .call addr => [0xCD#8, loByte addr, hiByte addr]
  | .cnz addr => [0xC4#8, loByte addr, hiByte addr]
  | .cz addr => [0xCC#8, loByte addr, hiByte addr]
  | .cnc addr => [0xD4#8, loByte addr, hiByte addr]
  | .cc addr => [0xDC#8, loByte addr, hiByte addr]
  | .cpo addr => [0xE4#8, loByte addr, hiByte addr]
  | .cpe addr => [0xEC#8, loByte addr, hiByte addr]
  | .cp addr => [0xF4#8, loByte addr, hiByte addr]
  | .cm addr => [0xFC#8, loByte addr, hiByte addr]
  | .ret => [0xC9#8]
  | .rnz => [0xC0#8]
  | .rz => [0xC8#8]
  | .rnc => [0xD0#8]
  | .rc => [0xD8#8]
  | .rpo => [0xE0#8]
  | .rpe => [0xE8#8]
  | .rp => [0xF0#8]
  | .rm => [0xF8#8]
  | .rst0 => [0xC7#8]
  | .rst1 => [0xCF#8]
  | .rst2 => [0xD7#8]
  | .rst3 => [0xDF#8]
  | .rst4 => [0xE7#8]
  | .rst5 => [0xEF#8]
  | .rst6 => [0xF7#8]
  | .rst7 => [0xFF#8]
  | .pchl => [0xE9#8]
  | .unlisted08 => [0x08#8]
  | .unlisted10 => [0x10#8]
  | .unlisted18 => [0x18#8]
  | .unlisted20 => [0x20#8]
  | .unlisted28 => [0x28#8]
  | .unlisted30 => [0x30#8]
  | .unlisted38 => [0x38#8]
  | .unlistedCB addr => [0xCB#8, loByte addr, hiByte addr]
  | .unlistedD9 => [0xD9#8]
  | .unlistedDD addr => [0xDD#8, loByte addr, hiByte addr]
  | .unlistedED addr => [0xED#8, loByte addr, hiByte addr]
  | .unlistedFD addr => [0xFD#8, loByte addr, hiByte addr]
  | .inPort port => [0xDB#8, port]
  | .outPort port => [0xD3#8, port]
  | .pushB => [0xC5#8]
  | .pushD => [0xD5#8]
  | .pushH => [0xE5#8]
  | .pushPSW => [0xF5#8]
  | .popB => [0xC1#8]
  | .popD => [0xD1#8]
  | .popH => [0xE1#8]
  | .popPSW => [0xF1#8]
  | .xthl => [0xE3#8]
  | .sphl => [0xF9#8]
  | .ei => [0xFB#8]
  | .di => [0xF3#8]
  | .hlt => [0x76#8]
  | .nop => [0x00#8]

/-- The byte number `k` of a word numbered as opcode_table.json numbers it: the first byte is bits 7:0. -/
def wordByte (nbits w k : Nat) : Byte := BitVec.ofNat 8 (w % 2 ^ nbits / 256 ^ k)

/-- The instruction the decoder reads from a table word (bits from `nbits` on are 0), laid out at ascending
addresses. -/
def decodeTableWord (nbits w : Nat) : Option Instr :=
  match decode [wordByte nbits w 0, wordByte nbits w 1, wordByte nbits w 2] with
  | .ok (i, _) => some i
  | .error _ => none

end Sys2Proof
end

