-- ==== Sys2Proof/Config.lean ====
section
/-! DEFINITION. What the spec leaves open. First the types of the open parameters of 00_scope.md R5 that a launch
fixes (`Launch`, a field of State); then the free values, opaque constants with no body: nothing can be proved about
their value, so a statement holds whatever they are. Those that the spec calls draws are applied to a counter that
State holds (`State.draws`), so that two draws may differ. -/

namespace Sys2Proof.Config

/-- How AC comes out of an AND: the instances of `ANA_AC(a, v)` and `ANI_AC(a, v)` that the spec names (R5, R160). -/
inductive AcRule where
  /-- Any value: a draw (the spec's default for `ANA_AC`, U1). -/
  | anyValue
  /-- 0 (the spec's default for `ANI_AC`, as the secondary document states). -/
  | cleared
  /-- Bit 3 of `a OR v` (the general-knowledge value, R160). -/
  | orBit3
deriving DecidableEq, Repr

/-- `UNLISTED_OPCODES`: what the 12 unlisted first bytes do (R5, R92). -/
inductive UnlistedRule where
  /-- They raise IllegalOpcode (the default). -/
  | fault
  /-- They act as the instructions R92 names. -/
  | act
deriving DecidableEq, Repr

/-- What `MEMMAP` may say of an address (R57, R67, D22). -/
inductive RegionKind where
  /-- Read and write memory without side effects. -/
  | ram
  /-- Memory whose content is fixed: a write changes nothing. -/
  | rom
  /-- Unpopulated: a write changes nothing, a read returns an unspecified byte, a draw each time. -/
  | unpopulated
  /-- A memory-mapped device: reads are answered by it, writes are events. -/
  | device
deriving DecidableEq, Repr

/-- One range of `MEMMAP`: the `size` addresses from `base` on. -/
structure Region where
  base : Nat
  size : Nat
  kind : RegionKind
deriving DecidableEq, Repr

/-- The open parameters that a launch fixes for the whole run, with the defaults of R5. No instruction changes
them. -/
structure Launch where
  /-- `ANA_AC`: the AC flag after `ANA r` and `ANA M`. -/
  anaAc : AcRule := .anyValue
  /-- `ANI_AC`: the AC flag after `ANI`. -/
  aniAc : AcRule := .cleared
  /-- `UNLISTED_OPCODES`. -/
  unlisted : UnlistedRule := .fault
  /-- `MEMMAP`: the first range that holds an address decides; an address in none is ram. -/
  memmap : List Region := []
deriving DecidableEq, Repr

/-- Content of a memory cell that nothing has written since power-up: one unknown byte per address (R66, U7). -/
opaque powerUp : Word → Byte

/-- What a read of an unpopulated address returns, drawn afresh at each read (D22, U7). -/
opaque openBus : Word → Nat → Byte

/-- What the device at an input port presents (`IO_IN`, R56, U8). -/
opaque portIn : Byte → Nat → Byte

/-- What a memory-mapped device presents to a read of its address (R67, D22). -/
opaque deviceIn : Word → Nat → Byte

/-- AC after an AND of the two bytes, where the rule in force is `AcRule.anyValue` (U1). -/
opaque andCarry : Byte → Byte → Nat → Bool

/-- Content of an 8-bit register after a RESET pulse (`RESET_UNSPEC`, U6). -/
opaque resetByte : Nat → Byte

/-- Content of SP after a RESET pulse (`RESET_UNSPEC`, U6). -/
opaque resetWord : Nat → Word

/-- A flag after a RESET pulse (`RESET_UNSPEC`, U6). -/
opaque resetFlag : Nat → Bool

end Sys2Proof.Config
end

