-- ==== Sys2Proof/Machine/State.lean ====
section
/-! DEFINITION. The state of the machine: all that 10_state.md R20 lists, and beside it, as plain data, what R20 calls
inputs of a step and 00_scope.md R5 calls open parameters. The reasons a step can stop, and the state right after
reset. -/

namespace Sys2Proof.Machine

/-- The five flags (R25). -/
structure Flags where
  /-- Sign. -/
  s : Bool
  /-- Zero. -/
  z : Bool
  /-- Auxiliary Carry. -/
  ac : Bool
  /-- Parity. -/
  p : Bool
  /-- Carry (the ISR's C). -/
  cy : Bool
deriving DecidableEq, Repr

/-- Memory (R50): the cells written since power-up, as (address, byte) pairs in strictly rising order of address
(`Memory.wf`). A cell not listed has no entry to be compared with: what it reads as is `State.peek`'s matter. -/
abbrev Memory := List Host.Cell

/-- What the environment presents at one instruction boundary (R20, R233, R260). -/
structure Boundary where
  /-- Pin RESET is pulsed here. -/
  reset : Bool := false
  /-- Pin INT is high here, and this is the byte the device would supply on acknowledge. -/
  int : Option Byte := none
deriving DecidableEq, Repr

/-- Where an input byte comes from: a port (R56) or a memory-mapped device (R67). -/
inductive Source where
  | port (p : Byte)
  | device (addr : Word)
deriving DecidableEq, Repr

/-- An output event: `OUT` to a port (R56, R217) or a write to a memory-mapped device, by the CPU or by an external bus
master (R67, R68, D22). -/
inductive Output where
  | port (p : Byte) (v : Byte)
  | device (addr : Word) (v : Byte)
deriving DecidableEq, Repr

/-- The machine's state. -/
structure State where
  /-- The accumulator (R21). -/
  a : Byte
  b : Byte
  c : Byte
  d : Byte
  e : Byte
  h : Byte
  l : Byte
  /-- Stack pointer (R24). -/
  sp : Word
  /-- Program counter: the address of the first byte of the next instruction (R23). -/
  pc : Word
  flags : Flags
  /-- INTE, the interrupt-enable flip-flop (R31). -/
  inte : Bool
  /-- EI_SHADOW: the last instruction completed was EI (R33). -/
  eiShadow : Bool
  /-- HALTED (R34). -/
  halted : Bool
  mem : Memory
  /-- The open parameters of the run (R5). -/
  launch : Config.Launch
  /-- `INT_SOURCE` and pin RESET: one entry for each instruction boundary to come; after the last, no request. -/
  env : List Boundary
  /-- `DMA_AGENT`: the writes an external bus master makes before each CPU bus access to come (R68). -/
  dma : List (List (Word × Byte))
  /-- Bytes that ports and devices will present (`IO_IN`); where none is listed for a source, a free value. -/
  inputs : List (Source × Byte)
  /-- Output events so far, oldest first (R217). -/
  outputs : List Output
  /-- How many free values have been drawn. -/
  draws : Nat
deriving DecidableEq, Repr

/-- Why a step stops with a fault: the model-level outcomes of R231 (the hardware has no exception, R230). -/
inductive Fault where
  /-- The first byte `op`, fetched at `addr`, is one of the 12 unlisted values and `UNLISTED_OPCODES` is `fault`
  (R92, R231 a). Raised by the meanings of the unlisted rows. Safe: the model claims nothing after it. -/
  | illegalOpcode (op : Byte) (addr : Word)
  /-- HaltedForever, the outcome `stuck` of R231 (c): the machine is halted and nothing in `env` ends the halt.
  Raised by the step at a boundary. Safe: the state no longer changes. -/
  | haltedForever
deriving DecidableEq, Repr

/-- Why a step is refused. -/
inductive Refusal where
  /-- The instruction has no meaning yet; raised by an arm of `exec` only. Safe. -/
  | notModelled (mnemonic : String)
  /-- UnsupportedInterruptInstruction of R231 (b): the acknowledged device supplied a byte that is not `RST n`
  (R235). Raised by the step at a boundary. Safe: it is a property of the launch's `INT_SOURCE`. -/
  | unsupportedInterruptInstruction (op : Byte)
deriving DecidableEq, Repr

/-- What one instruction or one step answers. -/
abbrev Result := Host.Outcome State Fault Refusal

/-- The machine right after reset (R37, R261): PC 0, INTE, EI_SHADOW and HALTED 0, memory with no cell listed. The
spec gives A to L, SP and the flags no value; here they are zero (DESIGN CHOICE, log entries 1 to 3). The open
parameters are at their defaults (R5) and the environment presents nothing. -/
def State.reset : State :=
  { a := 0#8, b := 0#8, c := 0#8, d := 0#8, e := 0#8, h := 0#8, l := 0#8
    sp := 0#16, pc := 0#16
    flags := { s := false, z := false, ac := false, p := false, cy := false }
    inte := false, eiShadow := false, halted := false
    mem := [], launch := {}, env := [], dma := [], inputs := [], outputs := [], draws := 0 }

end Sys2Proof.Machine
end

