-- ==== Sys2Proof/Machine/Flags.lean ====
section
/-! DEFINITION. Every flag computation of the spec: `ZSP` (10_state.md R26), the adder primitives and the decimal
adjust (42_arithmetic.md R130, R131, R144, R146, R150, R151), the logical flags (43_logical.md R160), and the PSW flag
byte (R29). -/

namespace Sys2Proof.Machine

/-- P of R26: 1 if the byte has an even number of 1 bits. -/
def parityEven (r : Byte) : Bool :=
  !(r.getLsbD 0 ^^ r.getLsbD 1 ^^ r.getLsbD 2 ^^ r.getLsbD 3 ^^
    r.getLsbD 4 ^^ r.getLsbD 5 ^^ r.getLsbD 6 ^^ r.getLsbD 7)

/-- `ZSP(r)` (R26): Z, S and P from an 8-bit result, AC and CY as given. -/
def zspWith (r : Byte) (ac cy : Bool) : Flags :=
  { s := r.msb, z := r == 0#8, ac := ac, p := parityEven r, cy := cy }

/-- The low nibble `v[3:0]` as a number. -/
def lowNibble (v : Byte) : Nat := (v.extractLsb' 0 4).toNat

/-- The high nibble `v[7:4]` as a number. -/
def highNibble (v : Byte) : Nat := (v.extractLsb' 4 4).toNat

/-- `ADD8(a, b, cin)` (R130): the 9-bit sum; CY is its bit 8, AC the carry out of bit 3. -/
def add8 (x y : Byte) (cin : Bool) : Byte × Flags :=
  let t : BitVec 9 := x.setWidth 9 + y.setWidth 9 + (BitVec.ofBool cin).setWidth 9
  let r : Byte := t.setWidth 8
  (r, zspWith r (decide (lowNibble x + lowNibble y + cin.toNat > 15)) t.msb)

/-- `SUB8(a, b, bin)` (R131): the addition of the complement; CY is the borrow, AC the carry out of bit 3 of the
complement addition. -/
def sub8 (x y : Byte) (bin : Bool) : Byte × Flags :=
  let t : BitVec 9 := x.setWidth 9 + (~~~y).setWidth 9 + (BitVec.ofBool (!bin)).setWidth 9
  let r : Byte := t.setWidth 8
  (r, zspWith r (decide (lowNibble x + lowNibble (~~~y) + (!bin).toNat > 15)) (!t.msb))

/-- The increment of R144 and R145: CY is not affected. -/
def inr8 (v : Byte) (f : Flags) : Byte × Flags :=
  let r := v + 1#8
  (r, zspWith r (lowNibble r == 0) f.cy)

/-- The decrement of R146 and R147: CY is not affected. -/
def dcr8 (v : Byte) (f : Flags) : Byte × Flags :=
  let r := v - 1#8
  (r, zspWith r (!(lowNibble r == 15)) f.cy)

/-- The sum of R150: 17 bits, CY the carry out of bit 15. -/
def dad16 (x y : Word) : Word × Bool :=
  let t : BitVec 17 := x.setWidth 17 + y.setWidth 17
  (t.setWidth 16, t.msb)

/-- AC after an AND of `x` and `y` under a rule (R160), the free value being draw number `n`. -/
def acAfterAnd (rule : Config.AcRule) (x y : Byte) (n : Nat) : Bool :=
  match rule with
  | .anyValue => Config.andCarry x y n
  | .cleared => false
  | .orBit3 => (x ||| y).getLsbD 3

/-- How many free values `acAfterAnd` uses. -/
def acDraws (rule : Config.AcRule) : Nat :=
  match rule with
  | .anyValue => 1
  | .cleared => 0
  | .orBit3 => 0

/-- `add_lo` of R151. -/
def daaAddLo (x : Byte) (f : Flags) : Bool := decide (lowNibble x > 9) || f.ac

/-- `add_hi` of R151. -/
def daaAddHi (x : Byte) (f : Flags) : Bool :=
  decide (highNibble x > 9) || f.cy || (decide (highNibble x ≥ 9) && decide (lowNibble x > 9))

/-- `DAA` (R151). -/
def daa8 (x : Byte) (f : Flags) : Byte × Flags :=
  let corr : Byte := (if daaAddLo x f then 0x06#8 else 0x00#8) + (if daaAddHi x f then 0x60#8 else 0x00#8)
  let r := x + corr
  (r, zspWith r (decide (lowNibble x + (if daaAddLo x f then 6 else 0) > 15)) (daaAddHi x f))

/-- The PSW flag byte `S : Z : 0 : AC : 0 : P : 1 : CY` (R29). -/
def flagByte (f : Flags) : Byte :=
  BitVec.ofBool f.s ++ BitVec.ofBool f.z ++ 0#1 ++ BitVec.ofBool f.ac ++ 0#1 ++ BitVec.ofBool f.p ++ 1#1 ++
    BitVec.ofBool f.cy

/-- The flags that `POP PSW` loads from a byte; bits 5, 3 and 1 are ignored (R29, R213). -/
def flagsOfByte (v : Byte) : Flags :=
  { s := v.getLsbD 7, z := v.getLsbD 6, ac := v.getLsbD 4, p := v.getLsbD 2, cy := v.getLsbD 0 }

end Sys2Proof.Machine
end

