-- ==== Sys2Proof/Machine/Memory.lean ====
section
/-! DEFINITION. The memory as data: one canonical form, so that memories with the same written cells are the same list.
20_memory.md R50: 65536 byte cells. -/

namespace Sys2Proof.Machine

/-- The byte last written at an address, if any was. -/
def Memory.read : Memory → Nat → Option Byte
  | [], _ => none
  | (k, v) :: rest, x => if k = x then some v else Memory.read rest x

/-- Write one byte, keeping the addresses strictly rising. -/
def Memory.write : Memory → Nat → Byte → Memory
  | [], x, v => [(x, v)]
  | (k, w) :: rest, x, v =>
    if x < k then (x, v) :: (k, w) :: rest
    else if x = k then (x, v) :: rest
    else (k, w) :: Memory.write rest x v

/-- The canonical form from address `lo` on: addresses strictly rising and inside the 65536 cells. -/
def Memory.wfFrom : Nat → Memory → Bool
  | _, [] => true
  | lo, (k, _) :: rest => decide (lo ≤ k) && decide (k < 65536) && Memory.wfFrom (k + 1) rest

/-- The canonical form. -/
def Memory.wf (m : Memory) : Bool := Memory.wfFrom 0 m

end Sys2Proof.Machine
end

