-- ==== Sys2Proof/Machine/Ops.lean ====
section
/-! DEFINITION. The shared operations of the machine: bus accesses (20_memory.md), the program counter, the stack
primitives, taking an interrupt and returning from it (60_exceptions.md), and the RESET pulse (70_reset_and_hazards.md).
Every memory or I/O access of an instruction is one call of `readMem`, `writeMem`, `ioRead` or `ioWrite`, in the order of
R55. -/

namespace Sys2Proof.Machine

/-- Does a `MEMMAP` range hold an address? -/
def regionHolds (r : Config.Region) (x : Word) : Bool := decide (r.base ≤ x.toNat) && decide (x.toNat < r.base + r.size)

/-- What a memory map says of an address: the first range that holds it, ram where none does (R57). -/
def kindIn : List Config.Region → Word → Config.RegionKind
  | [], _ => .ram
  | r :: rest, x => if regionHolds r x then r.kind else kindIn rest x

/-- What `MEMMAP` says of an address (R57). -/
def State.kindAt (s : State) (x : Word) : Config.RegionKind := kindIn s.launch.memmap x

/-- The content of a memory cell: the byte last written, or what the cell has held since power-up (R50, R66). -/
def State.peek (s : State) (x : Word) : Byte := (Memory.read s.mem x.toNat).getD (Config.powerUp x)

/-- What a write of one byte does, whoever makes it (R57, R67, D22): ram holds the byte, a write to rom or to an
unpopulated address is ignored, one to a device is an event. -/
def State.store (x : Word) (v : Byte) (s : State) : State :=
  match s.kindAt x with
  | .ram => { s with mem := Memory.write s.mem x.toNat v }
  | .rom => s
  | .unpopulated => s
  | .device => { s with outputs := s.outputs ++ [.device x v] }

/-- The writes of an external bus master in one of its slots, in order (R68, U12). -/
def State.dmaWrites : List (Word × Byte) → State → State
  | [], s => s
  | (x, v) :: rest, s => State.dmaWrites rest (s.store x v)

/-- What the external bus master does before the CPU's next bus access (R68): nothing by default. -/
def State.busSlot (s : State) : State :=
  match s.dma with
  | [] => s
  | w :: rest => State.dmaWrites w { s with dma := rest }

/-- The first byte scripted for a source, and the script without it. -/
def takeInput (src : Source) : List (Source × Byte) → Option (Byte × List (Source × Byte))
  | [] => none
  | (k, v) :: rest =>
    if k = src then some (v, rest)
    else
      match takeInput src rest with
      | none => none
      | some (w, rest') => some (w, (k, v) :: rest')

/-- The free value of a source where nothing is scripted (R56, R67). -/
def freeInput (src : Source) (n : Nat) : Byte :=
  match src with
  | .port p => Config.portIn p n
  | .device x => Config.deviceIn x n

/-- The oracle for inputs (`IO_IN`, R56): the next scripted byte of the source, else a draw. -/
def State.input (src : Source) (s : State) : Byte × State :=
  match takeInput src s.inputs with
  | some (v, rest) => (v, { s with inputs := rest })
  | none => (freeInput src s.draws, { s with draws := s.draws + 1 })

/-- `MemRead(addr, 1)` (R7) under `MEMMAP` (R57, R67, D22). -/
def State.readMem (x : Word) (s : State) : Byte × State :=
  let s1 := s.busSlot
  match s1.kindAt x with
  | .ram => (s1.peek x, s1)
  | .rom => (s1.peek x, s1)
  | .unpopulated => (Config.openBus x s1.draws, { s1 with draws := s1.draws + 1 })
  | .device => s1.input (.device x)

/-- `MemWrite(addr, 1, v)` (R7) under `MEMMAP` (R57, R67, D22). -/
def State.writeMem (x : Word) (v : Byte) (s : State) : State := s.busSlot.store x v

/-- `IORead(port)` (R56). -/
def State.ioRead (p : Byte) (s : State) : Byte × State := s.busSlot.input (.port p)

/-- `IOWrite(port, v)` (R56): the event is recorded in order. -/
def State.ioWrite (p v : Byte) (s : State) : State :=
  let s1 := s.busSlot
  { s1 with outputs := s1.outputs ++ [.port p v] }

/-- `MemRead16(addr)` (R52): low address first. -/
def State.readMem16 (x : Word) (s : State) : Word × State :=
  let lo := s.readMem x
  let hi := lo.2.readMem (x + 1#16)
  (joinBytes hi.1 lo.1, hi.2)

/-- `MemWrite16(addr, v)` (R52): low address first. -/
def State.writeMem16 (x : Word) (v : Word) (s : State) : State :=
  (s.writeMem x (loByte v)).writeMem (x + 1#16) (hiByte v)

/-- An instruction of length `n` that is not a taken control transfer completes (R23); like every instruction but EI
it clears EI_SHADOW (R33). -/
def State.advance (n : Word) (s : State) : State := { s with pc := s.pc + n, eiShadow := false }

/-- A control transfer completes (R23, R33). -/
def State.jumpTo (target : Word) (s : State) : State := { s with pc := target, eiShadow := false }

/-- `Push16(v)` (R54): high byte at SP-1, then low byte at SP-2, then SP moves down by 2. -/
def State.push16 (v : Word) (s : State) : State :=
  { (s.writeMem (s.sp - 1#16) (hiByte v)).writeMem (s.sp - 2#16) (loByte v) with sp := s.sp - 2#16 }

/-- `Pop16()` (R54): low byte at SP, then high byte at SP+1, then SP moves up by 2. -/
def State.pop16 (s : State) : Word × State :=
  let w := s.readMem16 s.sp
  (w.1, { w.2 with sp := s.sp + 2#16 })

/-- The call of R192: push the address of the next instruction, then transfer. -/
def State.callTo (len target : Word) (s : State) : State := (s.push16 (s.pc + len)).jumpTo target

/-- The address of `RST n` (R86, R196): `zext_16(nnn : 000b)`. -/
def restartTarget (n : Octal) : Word := BitVec.ofNat 16 n.toNat * 8#16

/-- Taking an interrupt whose device supplies `RST n` (R236): interrupts off, the halt ends, the unincremented PC is
pushed, control goes to 8n. -/
def State.takeInterrupt (n : Octal) (s : State) : State :=
  let s1 := { s with inte := false, eiShadow := false, halted := false }
  { s1.push16 s1.pc with pc := restartTarget n }

/-- The return, of a subroutine and of an interrupt handler alike (R194, R238): PC from the stack, nothing else
restored. -/
def State.returnFrom (s : State) : State :=
  let w := s.pop16
  w.2.jumpTo w.1

/-- A RESET pulse in a run (R260, R261, R37): PC, INTE, EI_SHADOW and HALTED get 0; A to L, the flags and SP are
unspecified, so free values; memory and devices are not touched. -/
def State.resetPulse (s : State) : State :=
  let n := s.draws
  { s with
    pc := 0#16, inte := false, eiShadow := false, halted := false
    a := Config.resetByte n, b := Config.resetByte (n + 1), c := Config.resetByte (n + 2)
    d := Config.resetByte (n + 3), e := Config.resetByte (n + 4)
    h := Config.resetByte (n + 5), l := Config.resetByte (n + 6)
    sp := Config.resetWord (n + 7)
    flags := { s := Config.resetFlag (n + 8), z := Config.resetFlag (n + 9), ac := Config.resetFlag (n + 10)
               p := Config.resetFlag (n + 11), cy := Config.resetFlag (n + 12) }
    draws := n + 13 }

end Sys2Proof.Machine
end

