-- ==== Sys2Proof/Machine/Boundary.lean ====
section
/-! DEFINITION. What happens at an instruction boundary (60_exceptions.md R233 to R236, R240, R241) and the fetch of an
instruction's bytes (30_encoding.md R80, 20_memory.md R58, R61). -/

namespace Sys2Proof.Machine

/-- What the environment presents at this boundary, and the state with that entry used up. -/
def State.popBoundary (s : State) : Boundary × State :=
  match s.env with
  | [] => ({}, s)
  | b :: rest => (b, { s with env := rest })

/-- What the machine does at a boundary. -/
inductive BoundaryAction where
  /-- RESET is asserted (R260). -/
  | reset
  /-- INT is accepted; the device supplies this byte (R234, R235). -/
  | acknowledge (op : Byte)
  /-- Halted, and something to come may end the halt (R34). -/
  | wait
  /-- Halted, and nothing to come ends the halt (R231 c). -/
  | stuck
  /-- Fetch and execute one instruction. -/
  | fetch
deriving DecidableEq, Repr

/-- Interrupts are effective: INTE = 1 and EI_SHADOW = 0 (R33, R234). -/
def State.accepting (s : State) : Bool := s.inte && !s.eiShadow

/-- Would this entry of `env` end a halt? -/
def State.wakes (s : State) (b : Boundary) : Bool := b.reset || (s.accepting && b.int.isSome)

/-- The action where neither RESET nor an accepted interrupt comes first. -/
def State.unprompted (s : State) : BoundaryAction :=
  if s.halted then (if s.env.any s.wakes then .wait else .stuck) else .fetch

/-- The action at a boundary (R234, R240 c): RESET first, then an effective interrupt request. -/
def State.boundaryAction (b : Boundary) (s : State) : BoundaryAction :=
  if b.reset then .reset
  else
    match b.int with
    | some op => if s.accepting then .acknowledge op else s.unprompted
    | none => s.unprompted

/-- The restart number of a byte of the form `11nnn111`, the only bytes admitted on acknowledge (R235). -/
def restartNumber (op : Byte) : Option Octal :=
  if op &&& 0xC7#8 = 0xC7#8 then some (midDigit op) else none

/-- The acknowledge cycle (R235): a bus access that takes one byte from the device. -/
def State.acknowledge (op : Byte) (s : State) : Result :=
  match restartNumber op with
  | some n => .next (s.busSlot.takeInterrupt n)
  | none => .refused (.unsupportedInterruptInstruction op)

/-- Fetch the instruction at PC: the first byte, then as many more as it calls for, in ascending order (R80, R89, D28).
The bytes that the length leaves out do not matter to the decoder and stand as 0. PC is not changed (R8). -/
def State.fetch (s : State) : Instr × State :=
  let f1 := s.readMem s.pc
  if opcodeLength f1.1 = 3 then
    let f2 := f1.2.readMem (s.pc + 1#16)
    let f3 := f2.2.readMem (s.pc + 2#16)
    (decodeBytes f1.1 f2.1 f3.1, f3.2)
  else if opcodeLength f1.1 = 2 then
    let f2 := f1.2.readMem (s.pc + 1#16)
    (decodeBytes f1.1 f2.1 0#8, f2.2)
  else (decodeBytes f1.1 0#8 0#8, f1.2)

/-- The entry of `env` that a boundary uses up, silenced; see `State.withFetchWord`. -/
def quietHead : List Boundary → List Boundary
  | [] => []
  | _ :: rest => {} :: rest

/-- A memory map in which the three addresses from `x` on read as memory; a range is put in front only for an address
that does not. -/
def readableFrom (x : Word) (m : List Config.Region) : List Config.Region :=
  let extra := ([x, x + 1#16, x + 2#16].filter fun y => kindIn m y = .unpopulated ∨ kindIn m y = .device).map
    fun y => ({ base := y.toNat, size := 1, kind := .ram } : Config.Region)
  extra ++ m

/-- The state with these three bytes at PC and nothing in the way of their fetch at the next step. -/
def State.placeAtPc (b1 b2 b3 : Byte) (s : State) : State :=
  { s with
    mem := Memory.write (Memory.write (Memory.write s.mem s.pc.toNat b1) (s.pc + 1#16).toNat b2) (s.pc + 2#16).toNat b3
    halted := false
    env := quietHead s.env
    dma := (s.dma.take 3).map (fun _ => []) ++ s.dma.drop 3
    launch := { s.launch with memmap := readableFrom s.pc s.launch.memmap } }

end Sys2Proof.Machine
end

