-- ==== Sys2Proof/Machine/Operands.lean ====
section
/-! DEFINITION. Operand forms: the 8-bit registers by number, the register pairs, the pairs of PUSH and POP, the operand
of the accumulator operations, and the conditions (10_state.md R21, R22, R29, R30; 00_scope.md R7). -/

namespace Sys2Proof.Machine

/-- `x[i]` (R7, R21). -/
def State.reg (r : Reg8) (s : State) : Byte :=
  match r with
  | .b => s.b
  | .c => s.c
  | .d => s.d
  | .e => s.e
  | .h => s.h
  | .l => s.l
  | .a => s.a

/-- `x[i] <- v` (R7, R21). -/
def State.setReg (r : Reg8) (v : Byte) (s : State) : State :=
  match r with
  | .b => { s with b := v }
  | .c => { s with c := v }
  | .d => { s with d := v }
  | .e => { s with e := v }
  | .h => { s with h := v }
  | .l => { s with l := v }
  | .a => { s with a := v }

/-- HL, the pointer of operand M (R21, R22). -/
def State.hl (s : State) : Word := joinBytes s.h s.l

/-- `RP(p)` (R7, R22). -/
def State.pair (p : RegPair) (s : State) : Word :=
  match p with
  | .bc => joinBytes s.b s.c
  | .de => joinBytes s.d s.e
  | .hl => joinBytes s.h s.l
  | .sp => s.sp

/-- `RP(p) <- v` (R7, R22). -/
def State.setPair (p : RegPair) (v : Word) (s : State) : State :=
  match p with
  | .bc => { s with b := hiByte v, c := loByte v }
  | .de => { s with d := hiByte v, e := loByte v }
  | .hl => { s with h := hiByte v, l := loByte v }
  | .sp => { s with sp := v }

/-- The 16-bit value that `PUSH` pushes; for PSW, A over the flag byte (R210, R211). -/
def State.stackPair (p : StackPair) (s : State) : Word :=
  match p with
  | .bc => joinBytes s.b s.c
  | .de => joinBytes s.d s.e
  | .hl => joinBytes s.h s.l
  | .psw => joinBytes s.a (flagByte s.flags)

/-- The pair that `POP` loads; for PSW, A and all five flags (R212, R213). -/
def State.setStackPair (p : StackPair) (v : Word) (s : State) : State :=
  match p with
  | .bc => { s with b := hiByte v, c := loByte v }
  | .de => { s with d := hiByte v, e := loByte v }
  | .hl => { s with h := hiByte v, l := loByte v }
  | .psw => { s with a := hiByte v, flags := flagsOfByte (loByte v) }

/-- The second operand of an accumulator operation, and the state after it is read (R7 `R8(i)`, R86). -/
def State.operand (o : Operand8) (s : State) : Byte × State :=
  match o with
  | .reg r => (s.reg r, s)
  | .mem => s.readMem s.hl
  | .imm v => (v, s)

/-- The length of an accumulator operation with that operand (R89). -/
def operandLength (o : Operand8) : Word :=
  match o with
  | .reg _ => 1#16
  | .mem => 1#16
  | .imm _ => 2#16

/-- `cond(c)` (R30). -/
def condHolds (cond : Cond) (f : Flags) : Bool :=
  match cond with
  | .nz => !f.z
  | .z => f.z
  | .nc => !f.cy
  | .c => f.cy
  | .po => !f.p
  | .pe => f.p
  | .p => !f.s
  | .m => f.s

end Sys2Proof.Machine
end

