-- ==== Sys2Proof/Machine/Arithmetic.lean ====
section
/-! DEFINITION. The arithmetic group (42_arithmetic.md). First the shared forms; then the meaning of each row. -/

namespace Sys2Proof.Machine

/-- An operation that puts an 8-bit result in A and writes all five flags. -/
def State.setAcc (r : Byte × Flags) (s : State) : State := { s with a := r.1, flags := r.2 }

/-- R132 to R134: `A <- ADD8(A, v, 0)`. -/
def addOp (o : Operand8) (s : State) : Result :=
  let v := s.operand o
  .next ((v.2.setAcc (add8 s.a v.1 false)).advance (operandLength o))

/-- R135 to R137: `A <- ADD8(A, v, CY)`. -/
def adcOp (o : Operand8) (s : State) : Result :=
  let v := s.operand o
  .next ((v.2.setAcc (add8 s.a v.1 s.flags.cy)).advance (operandLength o))

/-- R138 to R140: `A <- SUB8(A, v, 0)`. -/
def subOp (o : Operand8) (s : State) : Result :=
  let v := s.operand o
  .next ((v.2.setAcc (sub8 s.a v.1 false)).advance (operandLength o))

/-- R141 to R143: `A <- SUB8(A, v, CY)`. -/
def sbbOp (o : Operand8) (s : State) : Result :=
  let v := s.operand o
  .next ((v.2.setAcc (sub8 s.a v.1 s.flags.cy)).advance (operandLength o))

/-- R144. -/
def incReg (r : Reg8) (s : State) : Result :=
  let v := inr8 (s.reg r) s.flags
  .next (State.advance 1#16 { s.setReg r v.1 with flags := v.2 })

/-- R145: read HL, then write HL. -/
def incMem (s : State) : Result :=
  let m := s.readMem s.hl
  let v := inr8 m.1 s.flags
  .next (State.advance 1#16 { m.2.writeMem s.hl v.1 with flags := v.2 })

/-- R146. -/
def decReg (r : Reg8) (s : State) : Result :=
  let v := dcr8 (s.reg r) s.flags
  .next (State.advance 1#16 { s.setReg r v.1 with flags := v.2 })

/-- R147: read HL, then write HL. -/
def decMem (s : State) : Result :=
  let m := s.readMem s.hl
  let v := dcr8 m.1 s.flags
  .next (State.advance 1#16 { m.2.writeMem s.hl v.1 with flags := v.2 })

/-- R148: no flag. -/
def incPair (p : RegPair) (s : State) : Result := .next ((s.setPair p (s.pair p + 1#16)).advance 1#16)

/-- R149: no flag. -/
def decPair (p : RegPair) (s : State) : Result := .next ((s.setPair p (s.pair p - 1#16)).advance 1#16)

/-- R150: only CY. -/
def doubleAdd (p : RegPair) (s : State) : Result :=
  let t := dad16 s.hl (s.pair p)
  .next (State.advance 1#16 { s.setPair .hl t.1 with flags := { s.flags with cy := t.2 } })

/-- R151. -/
def decimalAdjust (s : State) : Result := .next ((s.setAcc (daa8 s.a s.flags)).advance 1#16)

/-- `ADD B`, 0x80 (R132). -/
def execAddB (s : State) : Result := addOp (.reg .b) s

/-- `ADD C`, 0x81 (R132). -/
def execAddC (s : State) : Result := addOp (.reg .c) s

/-- `ADD D`, 0x82 (R132). -/
def execAddD (s : State) : Result := addOp (.reg .d) s

/-- `ADD E`, 0x83 (R132). -/
def execAddE (s : State) : Result := addOp (.reg .e) s

/-- `ADD H`, 0x84 (R132). -/
def execAddH (s : State) : Result := addOp (.reg .h) s

/-- `ADD L`, 0x85 (R132). -/
def execAddL (s : State) : Result := addOp (.reg .l) s

/-- `ADD A`, 0x87 (R132). -/
def execAddA (s : State) : Result := addOp (.reg .a) s

/-- `ADD M`, 0x86 (R133). -/
def execAddM (s : State) : Result := addOp .mem s

/-- `ADI data`, 0xC6 (R134). -/
def execAdi (data : Byte) (s : State) : Result := addOp (.imm data) s

/-- `ADC B`, 0x88 (R135). -/
def execAdcB (s : State) : Result := adcOp (.reg .b) s

/-- `ADC C`, 0x89 (R135). -/
def execAdcC (s : State) : Result := adcOp (.reg .c) s

/-- `ADC D`, 0x8A (R135). -/
def execAdcD (s : State) : Result := adcOp (.reg .d) s

/-- `ADC E`, 0x8B (R135). -/
def execAdcE (s : State) : Result := adcOp (.reg .e) s

/-- `ADC H`, 0x8C (R135). -/
def execAdcH (s : State) : Result := adcOp (.reg .h) s

/-- `ADC L`, 0x8D (R135). -/
def execAdcL (s : State) : Result := adcOp (.reg .l) s

/-- `ADC A`, 0x8F (R135). -/
def execAdcA (s : State) : Result := adcOp (.reg .a) s

/-- `ADC M`, 0x8E (R136). -/
def execAdcM (s : State) : Result := adcOp .mem s

/-- `ACI data`, 0xCE (R137). -/
def execAci (data : Byte) (s : State) : Result := adcOp (.imm data) s

/-- `SUB B`, 0x90 (R138). -/
def execSubB (s : State) : Result := subOp (.reg .b) s

/-- `SUB C`, 0x91 (R138). -/
def execSubC (s : State) : Result := subOp (.reg .c) s

/-- `SUB D`, 0x92 (R138). -/
def execSubD (s : State) : Result := subOp (.reg .d) s

/-- `SUB E`, 0x93 (R138). -/
def execSubE (s : State) : Result := subOp (.reg .e) s

/-- `SUB H`, 0x94 (R138). -/
def execSubH (s : State) : Result := subOp (.reg .h) s

/-- `SUB L`, 0x95 (R138). -/
def execSubL (s : State) : Result := subOp (.reg .l) s

/-- `SUB A`, 0x97 (R138). -/
def execSubA (s : State) : Result := subOp (.reg .a) s

/-- `SUB M`, 0x96 (R139). -/
def execSubM (s : State) : Result := subOp .mem s

/-- `SUI data`, 0xD6 (R140). -/
def execSui (data : Byte) (s : State) : Result := subOp (.imm data) s

/-- `SBB B`, 0x98 (R141). -/
def execSbbB (s : State) : Result := sbbOp (.reg .b) s

/-- `SBB C`, 0x99 (R141). -/
def execSbbC (s : State) : Result := sbbOp (.reg .c) s

/-- `SBB D`, 0x9A (R141). -/
def execSbbD (s : State) : Result := sbbOp (.reg .d) s

/-- `SBB E`, 0x9B (R141). -/
def execSbbE (s : State) : Result := sbbOp (.reg .e) s

/-- `SBB H`, 0x9C (R141). -/
def execSbbH (s : State) : Result := sbbOp (.reg .h) s

/-- `SBB L`, 0x9D (R141). -/
def execSbbL (s : State) : Result := sbbOp (.reg .l) s

/-- `SBB A`, 0x9F (R141). -/
def execSbbA (s : State) : Result := sbbOp (.reg .a) s

/-- `SBB M`, 0x9E (R142). -/
def execSbbM (s : State) : Result := sbbOp .mem s

/-- `SBI data`, 0xDE (R143). -/
def execSbi (data : Byte) (s : State) : Result := sbbOp (.imm data) s

/-- `INR B`, 0x04 (R144). -/
def execInrB (s : State) : Result := incReg .b s

/-- `INR C`, 0x0C (R144). -/
def execInrC (s : State) : Result := incReg .c s

/-- `INR D`, 0x14 (R144). -/
def execInrD (s : State) : Result := incReg .d s

/-- `INR E`, 0x1C (R144). -/
def execInrE (s : State) : Result := incReg .e s

/-- `INR H`, 0x24 (R144). -/
def execInrH (s : State) : Result := incReg .h s

/-- `INR L`, 0x2C (R144). -/
def execInrL (s : State) : Result := incReg .l s

/-- `INR A`, 0x3C (R144). -/
def execInrA (s : State) : Result := incReg .a s

/-- `INR M`, 0x34 (R145). -/
def execInrM (s : State) : Result := incMem s

/-- `DCR B`, 0x05 (R146). -/
def execDcrB (s : State) : Result := decReg .b s

/-- `DCR C`, 0x0D (R146). -/
def execDcrC (s : State) : Result := decReg .c s

/-- `DCR D`, 0x15 (R146). -/
def execDcrD (s : State) : Result := decReg .d s

/-- `DCR E`, 0x1D (R146). -/
def execDcrE (s : State) : Result := decReg .e s

/-- `DCR H`, 0x25 (R146). -/
def execDcrH (s : State) : Result := decReg .h s

/-- `DCR L`, 0x2D (R146). -/
def execDcrL (s : State) : Result := decReg .l s

/-- `DCR A`, 0x3D (R146). -/
def execDcrA (s : State) : Result := decReg .a s

/-- `DCR M`, 0x35 (R147). -/
def execDcrM (s : State) : Result := decMem s

/-- `INX B`, 0x03 (R148). -/
def execInxB (s : State) : Result := incPair .bc s

/-- `INX D`, 0x13 (R148). -/
def execInxD (s : State) : Result := incPair .de s

/-- `INX H`, 0x23 (R148). -/
def execInxH (s : State) : Result := incPair .hl s

/-- `INX SP`, 0x33 (R148). -/
def execInxSP (s : State) : Result := incPair .sp s

/-- `DCX B`, 0x0B (R149). -/
def execDcxB (s : State) : Result := decPair .bc s

/-- `DCX D`, 0x1B (R149). -/
def execDcxD (s : State) : Result := decPair .de s

/-- `DCX H`, 0x2B (R149). -/
def execDcxH (s : State) : Result := decPair .hl s

/-- `DCX SP`, 0x3B (R149). -/
def execDcxSP (s : State) : Result := decPair .sp s

/-- `DAD B`, 0x09 (R150). -/
def execDadB (s : State) : Result := doubleAdd .bc s

/-- `DAD D`, 0x19 (R150). -/
def execDadD (s : State) : Result := doubleAdd .de s

/-- `DAD H`, 0x29 (R150). -/
def execDadH (s : State) : Result := doubleAdd .hl s

/-- `DAD SP`, 0x39 (R150). -/
def execDadSP (s : State) : Result := doubleAdd .sp s

/-- `DAA`, 0x27 (R151). -/
def execDaa (s : State) : Result := decimalAdjust s

end Sys2Proof.Machine
end

