-- ==== Sys2Proof/Machine/Branch.lean ====
section
/-! DEFINITION. The branch group (44_branch.md). No instruction of it writes a flag. First the shared forms; then the
meaning of each row. -/

namespace Sys2Proof.Machine

/-- R190: `PC <- addr16`. -/
def jumpAlways (addr : Word) (s : State) : Result := .next (s.jumpTo addr)

/-- R191. -/
def jumpOn (cond : Cond) (addr : Word) (s : State) : Result :=
  .next (if condHolds cond s.flags then s.jumpTo addr else s.advance 3#16)

/-- R192: push the address after the instruction, then transfer. -/
def callAlways (addr : Word) (s : State) : Result := .next (s.callTo 3#16 addr)

/-- R193: no stack access where the condition is false. -/
def callOn (cond : Cond) (addr : Word) (s : State) : Result :=
  .next (if condHolds cond s.flags then s.callTo 3#16 addr else s.advance 3#16)

/-- R194: `PC <- Pop16()`. -/
def returnAlways (s : State) : Result := .next s.returnFrom

/-- R195: no stack access where the condition is false. -/
def returnOn (cond : Cond) (s : State) : Result :=
  .next (if condHolds cond s.flags then s.returnFrom else s.advance 1#16)

/-- R196: a one-byte call to 8n. -/
def restart (n : Octal) (s : State) : Result := .next (s.callTo 1#16 (restartTarget n))

/-- R197: `PC <- HL`; memory is not read. -/
def jumpToHl (s : State) : Result := .next (s.jumpTo s.hl)

/-- `JMP addr`, 0xC3 (R190). -/
def execJmp (addr : Word) (s : State) : Result := jumpAlways addr s

/-- `JNZ addr`, 0xC2 (R191). -/
def execJnz (addr : Word) (s : State) : Result := jumpOn .nz addr s

/-- `JZ addr`, 0xCA (R191). -/
def execJz (addr : Word) (s : State) : Result := jumpOn .z addr s

/-- `JNC addr`, 0xD2 (R191). -/
def execJnc (addr : Word) (s : State) : Result := jumpOn .nc addr s

/-- `JC addr`, 0xDA (R191). -/
def execJc (addr : Word) (s : State) : Result := jumpOn .c addr s

/-- `JPO addr`, 0xE2 (R191). -/
def execJpo (addr : Word) (s : State) : Result := jumpOn .po addr s

/-- `JPE addr`, 0xEA (R191). -/
def execJpe (addr : Word) (s : State) : Result := jumpOn .pe addr s

/-- `JP addr`, 0xF2 (R191). -/
def execJp (addr : Word) (s : State) : Result := jumpOn .p addr s

/-- `JM addr`, 0xFA (R191). -/
def execJm (addr : Word) (s : State) : Result := jumpOn .m addr s

/-- `CALL addr`, 0xCD (R192). -/
def execCall (addr : Word) (s : State) : Result := callAlways addr s

/-- `CNZ addr`, 0xC4 (R193). -/
def execCnz (addr : Word) (s : State) : Result := callOn .nz addr s

/-- `CZ addr`, 0xCC (R193). -/
def execCz (addr : Word) (s : State) : Result := callOn .z addr s

/-- `CNC addr`, 0xD4 (R193). -/
def execCnc (addr : Word) (s : State) : Result := callOn .nc addr s

/-- `CC addr`, 0xDC (R193). -/
def execCc (addr : Word) (s : State) : Result := callOn .c addr s

/-- `CPO addr`, 0xE4 (R193). -/
def execCpo (addr : Word) (s : State) : Result := callOn .po addr s

/-- `CPE addr`, 0xEC (R193). -/
def execCpe (addr : Word) (s : State) : Result := callOn .pe addr s

/-- `CP addr`, 0xF4 (R193). -/
def execCp (addr : Word) (s : State) : Result := callOn .p addr s

/-- `CM addr`, 0xFC (R193). -/
def execCm (addr : Word) (s : State) : Result := callOn .m addr s

/-- `RET`, 0xC9 (R194). -/
def execRet (s : State) : Result := returnAlways s

/-- `RNZ`, 0xC0 (R195). -/
def execRnz (s : State) : Result := returnOn .nz s

/-- `RZ`, 0xC8 (R195). -/
def execRz (s : State) : Result := returnOn .z s

/-- `RNC`, 0xD0 (R195). -/
def execRnc (s : State) : Result := returnOn .nc s

/-- `RC`, 0xD8 (R195). -/
def execRc (s : State) : Result := returnOn .c s

/-- `RPO`, 0xE0 (R195). -/
def execRpo (s : State) : Result := returnOn .po s

/-- `RPE`, 0xE8 (R195). -/
def execRpe (s : State) : Result := returnOn .pe s

/-- `RP`, 0xF0 (R195). -/
def execRp (s : State) : Result := returnOn .p s

/-- `RM`, 0xF8 (R195). -/
def execRm (s : State) : Result := returnOn .m s

/-- `RST 0`, 0xC7 (R196). -/
def execRst0 (s : State) : Result := restart .o0 s

/-- `RST 1`, 0xCF (R196). -/
def execRst1 (s : State) : Result := restart .o1 s

/-- `RST 2`, 0xD7 (R196). -/
def execRst2 (s : State) : Result := restart .o2 s

/-- `RST 3`, 0xDF (R196). -/
def execRst3 (s : State) : Result := restart .o3 s

/-- `RST 4`, 0xE7 (R196). -/
def execRst4 (s : State) : Result := restart .o4 s

/-- `RST 5`, 0xEF (R196). -/
def execRst5 (s : State) : Result := restart .o5 s

/-- `RST 6`, 0xF7 (R196). -/
def execRst6 (s : State) : Result := restart .o6 s

/-- `RST 7`, 0xFF (R196). -/
def execRst7 (s : State) : Result := restart .o7 s

/-- `PCHL`, 0xE9 (R197). -/
def execPchl (s : State) : Result := jumpToHl s

end Sys2Proof.Machine
end

