-- ==== Sys2Proof/Machine/DataTransfer.lean ====
section
/-! DEFINITION. The data transfer group (41_data_transfer.md). No instruction of it touches a flag. First the shared
forms, one per rule; then the meaning of each row. -/

namespace Sys2Proof.Machine

/-- R110: `x[ddd] <- x[sss]`. -/
def moveReg (r1 r2 : Reg8) (s : State) : Result := .next ((s.setReg r1 (s.reg r2)).advance 1#16)

/-- R111: `MemWrite(HL, 1, x[sss])`. -/
def moveToMem (r : Reg8) (s : State) : Result := .next ((s.writeMem s.hl (s.reg r)).advance 1#16)

/-- R112: `x[ddd] <- MemRead(HL, 1)`, at HL as it was. -/
def moveFromMem (r : Reg8) (s : State) : Result :=
  let m := s.readMem s.hl
  .next ((m.2.setReg r m.1).advance 1#16)

/-- R113: `x[ddd] <- b2`. -/
def moveImm (r : Reg8) (data : Byte) (s : State) : Result := .next ((s.setReg r data).advance 2#16)

/-- R114: `MemWrite(HL, 1, b2)`. -/
def moveImmToMem (data : Byte) (s : State) : Result := .next ((s.writeMem s.hl data).advance 2#16)

/-- R115: `RP(rp) <- b3 : b2`. -/
def loadPairImm (p : RegPair) (data16 : Word) (s : State) : Result := .next ((s.setPair p data16).advance 3#16)

/-- R116: `A <- MemRead(addr16, 1)`. -/
def loadAccDirect (addr : Word) (s : State) : Result :=
  let m := s.readMem addr
  .next (State.advance 3#16 { m.2 with a := m.1 })

/-- R117: `MemWrite(addr16, 1, A)`. -/
def storeAccDirect (addr : Word) (s : State) : Result := .next ((s.writeMem addr s.a).advance 3#16)

/-- R118: L from `addr16`, then H from `addr16 + 1`. -/
def loadHlDirect (addr : Word) (s : State) : Result :=
  let m := s.readMem16 addr
  .next ((m.2.setPair .hl m.1).advance 3#16)

/-- R119: L to `addr16`, then H to `addr16 + 1`. -/
def storeHlDirect (addr : Word) (s : State) : Result := .next ((s.writeMem16 addr s.hl).advance 3#16)

/-- R120: `A <- MemRead(RP(rp), 1)`. -/
def loadAccAt (p : RegPair) (s : State) : Result :=
  let m := s.readMem (s.pair p)
  .next (State.advance 1#16 { m.2 with a := m.1 })

/-- R121: `MemWrite(RP(rp), 1, A)`. -/
def storeAccAt (p : RegPair) (s : State) : Result := .next ((s.writeMem (s.pair p) s.a).advance 1#16)

/-- R122: HL and DE change places. -/
def exchangeDeHl (s : State) : Result :=
  .next (State.advance 1#16 { s with h := s.d, l := s.e, d := s.h, e := s.l })

/-- `MOV B,B`, 0x40 (R110). -/
def execMovBB (s : State) : Result := moveReg .b .b s

/-- `MOV B,C`, 0x41 (R110). -/
def execMovBC (s : State) : Result := moveReg .b .c s

/-- `MOV B,D`, 0x42 (R110). -/
def execMovBD (s : State) : Result := moveReg .b .d s

/-- `MOV B,E`, 0x43 (R110). -/
def execMovBE (s : State) : Result := moveReg .b .e s

/-- `MOV B,H`, 0x44 (R110). -/
def execMovBH (s : State) : Result := moveReg .b .h s

/-- `MOV B,L`, 0x45 (R110). -/
def execMovBL (s : State) : Result := moveReg .b .l s

/-- `MOV B,A`, 0x47 (R110). -/
def execMovBA (s : State) : Result := moveReg .b .a s

/-- `MOV C,B`, 0x48 (R110). -/
def execMovCB (s : State) : Result := moveReg .c .b s

/-- `MOV C,C`, 0x49 (R110). -/
def execMovCC (s : State) : Result := moveReg .c .c s

/-- `MOV C,D`, 0x4A (R110). -/
def execMovCD (s : State) : Result := moveReg .c .d s

/-- `MOV C,E`, 0x4B (R110). -/
def execMovCE (s : State) : Result := moveReg .c .e s

/-- `MOV C,H`, 0x4C (R110). -/
def execMovCH (s : State) : Result := moveReg .c .h s

/-- `MOV C,L`, 0x4D (R110). -/
def execMovCL (s : State) : Result := moveReg .c .l s

/-- `MOV C,A`, 0x4F (R110). -/
def execMovCA (s : State) : Result := moveReg .c .a s

/-- `MOV D,B`, 0x50 (R110). -/
def execMovDB (s : State) : Result := moveReg .d .b s

/-- `MOV D,C`, 0x51 (R110). -/
def execMovDC (s : State) : Result := moveReg .d .c s

/-- `MOV D,D`, 0x52 (R110). -/
def execMovDD (s : State) : Result := moveReg .d .d s

/-- `MOV D,E`, 0x53 (R110). -/
def execMovDE (s : State) : Result := moveReg .d .e s

/-- `MOV D,H`, 0x54 (R110). -/
def execMovDH (s : State) : Result := moveReg .d .h s

/-- `MOV D,L`, 0x55 (R110). -/
def execMovDL (s : State) : Result := moveReg .d .l s

/-- `MOV D,A`, 0x57 (R110). -/
def execMovDA (s : State) : Result := moveReg .d .a s

/-- `MOV E,B`, 0x58 (R110). -/
def execMovEB (s : State) : Result := moveReg .e .b s

/-- `MOV E,C`, 0x59 (R110). -/
def execMovEC (s : State) : Result := moveReg .e .c s

/-- `MOV E,D`, 0x5A (R110). -/
def execMovED (s : State) : Result := moveReg .e .d s

/-- `MOV E,E`, 0x5B (R110). -/
def execMovEE (s : State) : Result := moveReg .e .e s

/-- `MOV E,H`, 0x5C (R110). -/
def execMovEH (s : State) : Result := moveReg .e .h s

/-- `MOV E,L`, 0x5D (R110). -/
def execMovEL (s : State) : Result := moveReg .e .l s

/-- `MOV E,A`, 0x5F (R110). -/
def execMovEA (s : State) : Result := moveReg .e .a s

/-- `MOV H,B`, 0x60 (R110). -/
def execMovHB (s : State) : Result := moveReg .h .b s

/-- `MOV H,C`, 0x61 (R110). -/
def execMovHC (s : State) : Result := moveReg .h .c s

/-- `MOV H,D`, 0x62 (R110). -/
def execMovHD (s : State) : Result := moveReg .h .d s

/-- `MOV H,E`, 0x63 (R110). -/
def execMovHE (s : State) : Result := moveReg .h .e s

/-- `MOV H,H`, 0x64 (R110). -/
def execMovHH (s : State) : Result := moveReg .h .h s

/-- `MOV H,L`, 0x65 (R110). -/
def execMovHL (s : State) : Result := moveReg .h .l s

/-- `MOV H,A`, 0x67 (R110). -/
def execMovHA (s : State) : Result := moveReg .h .a s

/-- `MOV L,B`, 0x68 (R110). -/
def execMovLB (s : State) : Result := moveReg .l .b s

/-- `MOV L,C`, 0x69 (R110). -/
def execMovLC (s : State) : Result := moveReg .l .c s

/-- `MOV L,D`, 0x6A (R110). -/
def execMovLD (s : State) : Result := moveReg .l .d s

/-- `MOV L,E`, 0x6B (R110). -/
def execMovLE (s : State) : Result := moveReg .l .e s

/-- `MOV L,H`, 0x6C (R110). -/
def execMovLH (s : State) : Result := moveReg .l .h s

/-- `MOV L,L`, 0x6D (R110). -/
def execMovLL (s : State) : Result := moveReg .l .l s

/-- `MOV L,A`, 0x6F (R110). -/
def execMovLA (s : State) : Result := moveReg .l .a s

/-- `MOV A,B`, 0x78 (R110). -/
def execMovAB (s : State) : Result := moveReg .a .b s

/-- `MOV A,C`, 0x79 (R110). -/
def execMovAC (s : State) : Result := moveReg .a .c s

/-- `MOV A,D`, 0x7A (R110). -/
def execMovAD (s : State) : Result := moveReg .a .d s

/-- `MOV A,E`, 0x7B (R110). -/
def execMovAE (s : State) : Result := moveReg .a .e s

/-- `MOV A,H`, 0x7C (R110). -/
def execMovAH (s : State) : Result := moveReg .a .h s

/-- `MOV A,L`, 0x7D (R110). -/
def execMovAL (s : State) : Result := moveReg .a .l s

/-- `MOV A,A`, 0x7F (R110). -/
def execMovAA (s : State) : Result := moveReg .a .a s

/-- `MOV M,B`, 0x70 (R111). -/
def execMovMB (s : State) : Result := moveToMem .b s

/-- `MOV M,C`, 0x71 (R111). -/
def execMovMC (s : State) : Result := moveToMem .c s

/-- `MOV M,D`, 0x72 (R111). -/
def execMovMD (s : State) : Result := moveToMem .d s

/-- `MOV M,E`, 0x73 (R111). -/
def execMovME (s : State) : Result := moveToMem .e s

/-- `MOV M,H`, 0x74 (R111). -/
def execMovMH (s : State) : Result := moveToMem .h s

/-- `MOV M,L`, 0x75 (R111). -/
def execMovML (s : State) : Result := moveToMem .l s

/-- `MOV M,A`, 0x77 (R111). -/
def execMovMA (s : State) : Result := moveToMem .a s

/-- `MOV B,M`, 0x46 (R112). -/
def execMovBM (s : State) : Result := moveFromMem .b s

/-- `MOV C,M`, 0x4E (R112). -/
def execMovCM (s : State) : Result := moveFromMem .c s

/-- `MOV D,M`, 0x56 (R112). -/
def execMovDM (s : State) : Result := moveFromMem .d s

/-- `MOV E,M`, 0x5E (R112). -/
def execMovEM (s : State) : Result := moveFromMem .e s

/-- `MOV H,M`, 0x66 (R112). -/
def execMovHM (s : State) : Result := moveFromMem .h s

/-- `MOV L,M`, 0x6E (R112). -/
def execMovLM (s : State) : Result := moveFromMem .l s

/-- `MOV A,M`, 0x7E (R112). -/
def execMovAM (s : State) : Result := moveFromMem .a s

/-- `MVI B,data`, 0x06 (R113). -/
def execMviB (data : Byte) (s : State) : Result := moveImm .b data s

/-- `MVI C,data`, 0x0E (R113). -/
def execMviC (data : Byte) (s : State) : Result := moveImm .c data s

/-- `MVI D,data`, 0x16 (R113). -/
def execMviD (data : Byte) (s : State) : Result := moveImm .d data s

/-- `MVI E,data`, 0x1E (R113). -/
def execMviE (data : Byte) (s : State) : Result := moveImm .e data s

/-- `MVI H,data`, 0x26 (R113). -/
def execMviH (data : Byte) (s : State) : Result := moveImm .h data s

/-- `MVI L,data`, 0x2E (R113). -/
def execMviL (data : Byte) (s : State) : Result := moveImm .l data s

/-- `MVI A,data`, 0x3E (R113). -/
def execMviA (data : Byte) (s : State) : Result := moveImm .a data s

/-- `MVI M,data`, 0x36 (R114). -/
def execMviM (data : Byte) (s : State) : Result := moveImmToMem data s

/-- `LXI B,data16`, 0x01 (R115). -/
def execLxiB (data16 : Word) (s : State) : Result := loadPairImm .bc data16 s

/-- `LXI D,data16`, 0x11 (R115). -/
def execLxiD (data16 : Word) (s : State) : Result := loadPairImm .de data16 s

/-- `LXI H,data16`, 0x21 (R115). -/
def execLxiH (data16 : Word) (s : State) : Result := loadPairImm .hl data16 s

/-- `LXI SP,data16`, 0x31 (R115). -/
def execLxiSP (data16 : Word) (s : State) : Result := loadPairImm .sp data16 s

/-- `LDA addr`, 0x3A (R116). -/
def execLda (addr : Word) (s : State) : Result := loadAccDirect addr s

/-- `STA addr`, 0x32 (R117). -/
def execSta (addr : Word) (s : State) : Result := storeAccDirect addr s

/-- `LHLD addr`, 0x2A (R118). -/
def execLhld (addr : Word) (s : State) : Result := loadHlDirect addr s

/-- `SHLD addr`, 0x22 (R119). -/
def execShld (addr : Word) (s : State) : Result := storeHlDirect addr s

/-- `LDAX B`, 0x0A (R120). -/
def execLdaxB (s : State) : Result := loadAccAt .bc s

/-- `LDAX D`, 0x1A (R120). -/
def execLdaxD (s : State) : Result := loadAccAt .de s

/-- `STAX B`, 0x02 (R121). -/
def execStaxB (s : State) : Result := storeAccAt .bc s

/-- `STAX D`, 0x12 (R121). -/
def execStaxD (s : State) : Result := storeAccAt .de s

/-- `XCHG`, 0xEB (R122). -/
def execXchg (s : State) : Result := exchangeDeHl s

end Sys2Proof.Machine
end

