-- ==== Sys2Proof/Machine/Logical.lean ====
section
/-! DEFINITION. The logical group (43_logical.md). First the shared forms; then the meaning of each row. -/

namespace Sys2Proof.Machine

/-- The flags of R160: S, Z, P from the result, CY 0, AC as given. -/
def logicFlags (r : Byte) (ac : Bool) : Flags := zspWith r ac false

/-- An AND under a rule for AC; the free value, where the rule asks for one, is the next draw (R160). -/
def State.andAcc (rule : Config.AcRule) (v : Byte) (s : State) : State :=
  { s with
    a := s.a &&& v
    flags := logicFlags (s.a &&& v) (acAfterAnd rule s.a v s.draws)
    draws := s.draws + acDraws rule }

/-- R161, R162: AC by `ANA_AC`. -/
def anaOp (o : Operand8) (s : State) : Result :=
  let v := s.operand o
  .next ((v.2.andAcc s.launch.anaAc v.1).advance (operandLength o))

/-- R163: AC by `ANI_AC`. -/
def aniOp (data : Byte) (s : State) : Result := .next ((s.andAcc s.launch.aniAc data).advance 2#16)

/-- R164 to R166: AC and CY reset. -/
def xraOp (o : Operand8) (s : State) : Result :=
  let v := s.operand o
  .next ((v.2.setAcc (s.a ^^^ v.1, logicFlags (s.a ^^^ v.1) false)).advance (operandLength o))

/-- R167 to R169: AC and CY reset. -/
def oraOp (o : Operand8) (s : State) : Result :=
  let v := s.operand o
  .next ((v.2.setAcc (s.a ||| v.1, logicFlags (s.a ||| v.1) false)).advance (operandLength o))

/-- R170 to R172: the flags of the subtraction; A is not changed. -/
def cmpOp (o : Operand8) (s : State) : Result :=
  let v := s.operand o
  .next (State.advance (operandLength o) { v.2 with flags := (sub8 s.a v.1 false).2 })

/-- A rotate: A and CY are written, no other flag. -/
def State.rotated (r : Byte) (cy : Bool) (s : State) : State := { s with a := r, flags := { s.flags with cy := cy } }

/-- R173: `c <- A[7]; A <- A[6:0] : c; CY <- c`. -/
def rotateLeft (s : State) : Result :=
  .next ((s.rotated (s.a.extractLsb' 0 7 ++ s.a.extractLsb' 7 1) (s.a.getLsbD 7)).advance 1#16)

/-- R174: `c <- A[0]; A <- c : A[7:1]; CY <- c`. -/
def rotateRight (s : State) : Result :=
  .next ((s.rotated (s.a.extractLsb' 0 1 ++ s.a.extractLsb' 1 7) (s.a.getLsbD 0)).advance 1#16)

/-- R175: `c <- A[7]; A <- A[6:0] : CY; CY <- c`. -/
def rotateLeftCarry (s : State) : Result :=
  .next ((s.rotated (s.a.extractLsb' 0 7 ++ BitVec.ofBool s.flags.cy) (s.a.getLsbD 7)).advance 1#16)

/-- R176: `c <- A[0]; A <- CY : A[7:1]; CY <- c`. -/
def rotateRightCarry (s : State) : Result :=
  .next ((s.rotated (BitVec.ofBool s.flags.cy ++ s.a.extractLsb' 1 7) (s.a.getLsbD 0)).advance 1#16)

/-- R177: no flag. -/
def complementAcc (s : State) : Result := .next (State.advance 1#16 { s with a := ~~~s.a })

/-- R178. -/
def complementCarry (s : State) : Result :=
  .next (State.advance 1#16 { s with flags := { s.flags with cy := !s.flags.cy } })

/-- R179. -/
def setCarry (s : State) : Result := .next (State.advance 1#16 { s with flags := { s.flags with cy := true } })

/-- `ANA B`, 0xA0 (R161). -/
def execAnaB (s : State) : Result := anaOp (.reg .b) s

/-- `ANA C`, 0xA1 (R161). -/
def execAnaC (s : State) : Result := anaOp (.reg .c) s

/-- `ANA D`, 0xA2 (R161). -/
def execAnaD (s : State) : Result := anaOp (.reg .d) s

/-- `ANA E`, 0xA3 (R161). -/
def execAnaE (s : State) : Result := anaOp (.reg .e) s

/-- `ANA H`, 0xA4 (R161). -/
def execAnaH (s : State) : Result := anaOp (.reg .h) s

/-- `ANA L`, 0xA5 (R161). -/
def execAnaL (s : State) : Result := anaOp (.reg .l) s

/-- `ANA A`, 0xA7 (R161). -/
def execAnaA (s : State) : Result := anaOp (.reg .a) s

/-- `ANA M`, 0xA6 (R162). -/
def execAnaM (s : State) : Result := anaOp .mem s

/-- `ANI data`, 0xE6 (R163). -/
def execAni (data : Byte) (s : State) : Result := aniOp data s

/-- `XRA B`, 0xA8 (R164). -/
def execXraB (s : State) : Result := xraOp (.reg .b) s

/-- `XRA C`, 0xA9 (R164). -/
def execXraC (s : State) : Result := xraOp (.reg .c) s

/-- `XRA D`, 0xAA (R164). -/
def execXraD (s : State) : Result := xraOp (.reg .d) s

/-- `XRA E`, 0xAB (R164). -/
def execXraE (s : State) : Result := xraOp (.reg .e) s

/-- `XRA H`, 0xAC (R164). -/
def execXraH (s : State) : Result := xraOp (.reg .h) s

/-- `XRA L`, 0xAD (R164). -/
def execXraL (s : State) : Result := xraOp (.reg .l) s

/-- `XRA A`, 0xAF (R164). -/
def execXraA (s : State) : Result := xraOp (.reg .a) s

/-- `XRA M`, 0xAE (R165). -/
def execXraM (s : State) : Result := xraOp .mem s

/-- `XRI data`, 0xEE (R166). -/
def execXri (data : Byte) (s : State) : Result := xraOp (.imm data) s

/-- `ORA B`, 0xB0 (R167). -/
def execOraB (s : State) : Result := oraOp (.reg .b) s

/-- `ORA C`, 0xB1 (R167). -/
def execOraC (s : State) : Result := oraOp (.reg .c) s

/-- `ORA D`, 0xB2 (R167). -/
def execOraD (s : State) : Result := oraOp (.reg .d) s

/-- `ORA E`, 0xB3 (R167). -/
def execOraE (s : State) : Result := oraOp (.reg .e) s

/-- `ORA H`, 0xB4 (R167). -/
def execOraH (s : State) : Result := oraOp (.reg .h) s

/-- `ORA L`, 0xB5 (R167). -/
def execOraL (s : State) : Result := oraOp (.reg .l) s

/-- `ORA A`, 0xB7 (R167). -/
def execOraA (s : State) : Result := oraOp (.reg .a) s

/-- `ORA M`, 0xB6 (R168). -/
def execOraM (s : State) : Result := oraOp .mem s

/-- `ORI data`, 0xF6 (R169). -/
def execOri (data : Byte) (s : State) : Result := oraOp (.imm data) s

/-- `CMP B`, 0xB8 (R170). -/
def execCmpB (s : State) : Result := cmpOp (.reg .b) s

/-- `CMP C`, 0xB9 (R170). -/
def execCmpC (s : State) : Result := cmpOp (.reg .c) s

/-- `CMP D`, 0xBA (R170). -/
def execCmpD (s : State) : Result := cmpOp (.reg .d) s

/-- `CMP E`, 0xBB (R170). -/
def execCmpE (s : State) : Result := cmpOp (.reg .e) s

/-- `CMP H`, 0xBC (R170). -/
def execCmpH (s : State) : Result := cmpOp (.reg .h) s

/-- `CMP L`, 0xBD (R170). -/
def execCmpL (s : State) : Result := cmpOp (.reg .l) s

/-- `CMP A`, 0xBF (R170). -/
def execCmpA (s : State) : Result := cmpOp (.reg .a) s

/-- `CMP M`, 0xBE (R171). -/
def execCmpM (s : State) : Result := cmpOp .mem s

/-- `CPI data`, 0xFE (R172). -/
def execCpi (data : Byte) (s : State) : Result := cmpOp (.imm data) s

/-- `RLC`, 0x07 (R173). -/
def execRlc (s : State) : Result := rotateLeft s

/-- `RRC`, 0x0F (R174). -/
def execRrc (s : State) : Result := rotateRight s

/-- `RAL`, 0x17 (R175). -/
def execRal (s : State) : Result := rotateLeftCarry s

/-- `RAR`, 0x1F (R176). -/
def execRar (s : State) : Result := rotateRightCarry s

/-- `CMA`, 0x2F (R177). -/
def execCma (s : State) : Result := complementAcc s

/-- `CMC`, 0x3F (R178). -/
def execCmc (s : State) : Result := complementCarry s

/-- `STC`, 0x37 (R179). -/
def execStc (s : State) : Result := setCarry s

end Sys2Proof.Machine
end

