-- ==== Sys2Proof/Machine/StackIo.lean ====
section
/-! DEFINITION. The stack, I/O and machine control group (45_stack_io_control.md). Only POP PSW writes flags. First the
shared forms; then the meaning of each row. -/

namespace Sys2Proof.Machine

/-- R210, R211: `Push16` of the pair. -/
def pushPair (p : StackPair) (s : State) : Result := .next ((s.push16 (s.stackPair p)).advance 1#16)

/-- R212, R213: the pair from `Pop16`. -/
def popPair (p : StackPair) (s : State) : Result :=
  let w := s.pop16
  .next ((w.2.setStackPair p w.1).advance 1#16)

/-- R214: read SP, read SP+1, write H to SP+1, write L to SP; SP is unchanged. -/
def exchangeTop (s : State) : Result :=
  let m := s.readMem16 s.sp
  .next ((((m.2.writeMem (s.sp + 1#16) s.h).writeMem s.sp s.l).setPair .hl m.1).advance 1#16)

/-- R215: `SP <- HL`. -/
def loadSpFromHl (s : State) : Result := .next (State.advance 1#16 { s with sp := s.hl })

/-- R216: `A <- IORead(b2)`. -/
def inputPort (port : Byte) (s : State) : Result :=
  let m := s.ioRead port
  .next (State.advance 2#16 { m.2 with a := m.1 })

/-- R217: `IOWrite(b2, A)`. -/
def outputPort (port : Byte) (s : State) : Result := .next ((s.ioWrite port s.a).advance 2#16)

/-- R218: `INTE <- 1; EI_SHADOW <- 1`. -/
def enableInterrupts (s : State) : Result := .next { s with pc := s.pc + 1#16, inte := true, eiShadow := true }

/-- R219: `INTE <- 0; EI_SHADOW <- 0`. -/
def disableInterrupts (s : State) : Result := .next (State.advance 1#16 { s with inte := false })

/-- R220: PC is advanced, then the machine halts. -/
def halt (s : State) : Result := .next { s.advance 1#16 with halted := true }

/-- R221. -/
def noOperation (s : State) : Result := .next (s.advance 1#16)

/-- `IN port`, 0xDB (R216). -/
def execInPort (port : Byte) (s : State) : Result := inputPort port s

/-- `OUT port`, 0xD3 (R217). -/
def execOutPort (port : Byte) (s : State) : Result := outputPort port s

/-- `PUSH B`, 0xC5 (R210). -/
def execPushB (s : State) : Result := pushPair .bc s

/-- `PUSH D`, 0xD5 (R210). -/
def execPushD (s : State) : Result := pushPair .de s

/-- `PUSH H`, 0xE5 (R210). -/
def execPushH (s : State) : Result := pushPair .hl s

/-- `PUSH PSW`, 0xF5 (R211). -/
def execPushPSW (s : State) : Result := pushPair .psw s

/-- `POP B`, 0xC1 (R212). -/
def execPopB (s : State) : Result := popPair .bc s

/-- `POP D`, 0xD1 (R212). -/
def execPopD (s : State) : Result := popPair .de s

/-- `POP H`, 0xE1 (R212). -/
def execPopH (s : State) : Result := popPair .hl s

/-- `POP PSW`, 0xF1 (R213). -/
def execPopPSW (s : State) : Result := popPair .psw s

/-- `XTHL`, 0xE3 (R214). -/
def execXthl (s : State) : Result := exchangeTop s

/-- `SPHL`, 0xF9 (R215). -/
def execSphl (s : State) : Result := loadSpFromHl s

/-- `EI`, 0xFB (R218). -/
def execEi (s : State) : Result := enableInterrupts s

/-- `DI`, 0xF3 (R219). -/
def execDi (s : State) : Result := disableInterrupts s

/-- `HLT`, 0x76 (R220). -/
def execHlt (s : State) : Result := halt s

/-- `NOP`, 0x00 (R221). -/
def execNop (s : State) : Result := noOperation s

end Sys2Proof.Machine
end

