-- ==== Sys2Proof/Machine/Unlisted.lean ====
section
/-! DEFINITION. The 12 first bytes that neither source lists (30_encoding.md R92). With `UNLISTED_OPCODES` at `fault`,
the default, each raises IllegalOpcode (60_exceptions.md R231 a) and nothing changes; otherwise it acts as the
instruction R92 names. -/

namespace Sys2Proof.Machine

/-- The choice of R92. -/
def unlistedElse (op : Byte) (meaning : Result) (s : State) : Result :=
  match s.launch.unlisted with
  | .fault => .fault (.illegalOpcode op s.pc)
  | .act => meaning

/-- 0x08 to 0x38: as NOP (R221). -/
def unlistedNop (op : Byte) (s : State) : Result := unlistedElse op (.next (s.advance 1#16)) s

/-- 0xCB: as JMP (R190). -/
def unlistedJump (op : Byte) (addr : Word) (s : State) : Result := unlistedElse op (jumpAlways addr s) s

/-- 0xD9: as RET (R194). -/
def unlistedReturn (op : Byte) (s : State) : Result := unlistedElse op (returnAlways s) s

/-- 0xDD, 0xED, 0xFD: as CALL (R192). -/
def unlistedCall (op : Byte) (addr : Word) (s : State) : Result := unlistedElse op (callAlways addr s) s

/-- First byte 0x08 (R92). -/
def execUnlisted08 (s : State) : Result := unlistedNop 0x08#8 s

/-- First byte 0x10 (R92). -/
def execUnlisted10 (s : State) : Result := unlistedNop 0x10#8 s

/-- First byte 0x18 (R92). -/
def execUnlisted18 (s : State) : Result := unlistedNop 0x18#8 s

/-- First byte 0x20 (R92). -/
def execUnlisted20 (s : State) : Result := unlistedNop 0x20#8 s

/-- First byte 0x28 (R92). -/
def execUnlisted28 (s : State) : Result := unlistedNop 0x28#8 s

/-- First byte 0x30 (R92). -/
def execUnlisted30 (s : State) : Result := unlistedNop 0x30#8 s

/-- First byte 0x38 (R92). -/
def execUnlisted38 (s : State) : Result := unlistedNop 0x38#8 s

/-- First byte 0xCB (R92). -/
def execUnlistedCB (addr : Word) (s : State) : Result := unlistedJump 0xCB#8 addr s

/-- First byte 0xD9 (R92). -/
def execUnlistedD9 (s : State) : Result := unlistedReturn 0xD9#8 s

/-- First byte 0xDD (R92). -/
def execUnlistedDD (addr : Word) (s : State) : Result := unlistedCall 0xDD#8 addr s

/-- First byte 0xED (R92). -/
def execUnlistedED (addr : Word) (s : State) : Result := unlistedCall 0xED#8 addr s

/-- First byte 0xFD (R92). -/
def execUnlistedFD (addr : Word) (s : State) : Result := unlistedCall 0xFD#8 addr s

end Sys2Proof.Machine
end

