-- ==== Sys2Proof/Machine/Step.lean ====
section
/-! DEFINITION. One step of the machine: the boundary between two instructions, and then what happens there: a RESET
pulse, the acceptance of an interrupt, another moment of a halt, or one instruction. -/

namespace Sys2Proof.Machine

/-- Fetch one instruction and execute it. -/
def State.runInstruction (s : State) : Host.Outcome State Fault Refusal := exec s.fetch.1 s.fetch.2

/-- One step (60_exceptions.md R233 to R236, R240, R241). -/
def step (s : State) : Host.Outcome State Fault Refusal :=
  match s.popBoundary.2.boundaryAction s.popBoundary.1 with
  | .reset => .next s.popBoundary.2.resetPulse
  | .acknowledge op => s.popBoundary.2.acknowledge op
  | .wait => .next s.popBoundary.2
  | .stuck => .fault .haltedForever
  | .fetch => s.popBoundary.2.runInstruction

/-- The state with an instruction's word, numbered as opcode_table.json numbers it, stored where the next step fetches:
three bytes from PC on, those above `nbits` zero. What would keep the next step from fetching them is put out of the way:
a halt, the next entry of `env`, bus-master writes before the three accesses, and a memory map in which they do not read
as memory. From `State.reset` none of that is there and only memory changes. -/
def State.withFetchWord (s : State) (nbits w : Nat) : State :=
  s.placeAtPc (wordByte nbits w 0) (wordByte nbits w 1) (wordByte nbits w 2)

end Sys2Proof.Machine
end

