-- ==== Sys2Proof/Machine/Bus.lean ====
section
/-! DEFINITION. The ten kinds of bus cycle and their status words (20_memory.md R58): a transcription. No result of the
machine depends on it. -/

namespace Sys2Proof.Machine

/-- The kinds of machine cycle, in the order of R58. -/
inductive BusCycle where
  | instructionFetch | memoryRead | memoryWrite | stackRead | stackWrite
  | inputRead | outputWrite | intAck | haltAck | intAckWhileHalt
deriving DecidableEq, Repr

/-- The bits of a status word, D0 first (R58). -/
structure StatusBits where
  inta : Bool
  /-- /WO: 0 marks a write. -/
  wo : Bool
  stack : Bool
  hlta : Bool
  out : Bool
  m1 : Bool
  inp : Bool
  memr : Bool
deriving DecidableEq, Repr

/-- The table of R58. -/
def statusBits (k : BusCycle) : StatusBits :=
  match k with
  | .instructionFetch => ⟨false, true, false, false, false, true, false, true⟩
  | .memoryRead => ⟨false, true, false, false, false, false, false, true⟩
  | .memoryWrite => ⟨false, false, false, false, false, false, false, false⟩
  | .stackRead => ⟨false, true, true, false, false, false, false, true⟩
  | .stackWrite => ⟨false, false, true, false, false, false, false, false⟩
  | .inputRead => ⟨false, true, false, false, false, false, true, false⟩
  | .outputWrite => ⟨false, false, false, false, true, false, false, false⟩
  | .intAck => ⟨true, true, false, false, false, true, false, false⟩
  | .haltAck => ⟨false, true, false, true, false, false, false, true⟩
  | .intAckWhileHalt => ⟨true, true, false, true, false, true, false, false⟩

/-- The byte on D7 to D0. -/
def statusWord (k : BusCycle) : Byte :=
  let b := statusBits k
  BitVec.ofBool b.memr ++ BitVec.ofBool b.inp ++ BitVec.ofBool b.m1 ++ BitVec.ofBool b.out ++ BitVec.ofBool b.hlta ++
    BitVec.ofBool b.stack ++ BitVec.ofBool b.wo ++ BitVec.ofBool b.inta

end Sys2Proof.Machine
end

