-- ==== Sys2Proof/Machine/Timing.lean ====
section
/-! DEFINITION. The cycle counts of 70_reset_and_hazards.md R270: an annotation. Nothing in the machine reads it (R271 e). -/

namespace Sys2Proof.Machine

/-- The Cycles column as the spec records it. -/
inductive CycleCount where
  /-- One count. -/
  | fixed (n : Nat)
  /-- Two counts: condition false, condition true. -/
  | conditional (untaken taken : Nat)
  /-- The sources give no count (the 12 unlisted first bytes). -/
  | unstated
deriving DecidableEq, Repr

/-- The count of an instruction (R270). -/
def cycles (i : Instr) : CycleCount :=
  match i with
  | .movBB | .movBC | .movBD | .movBE | .movBH | .movBL | .movBA | .movCB
  | .movCC | .movCD | .movCE | .movCH | .movCL | .movCA | .movDB | .movDC
  | .movDD | .movDE | .movDH | .movDL | .movDA | .movEB | .movEC | .movED
  | .movEE | .movEH | .movEL | .movEA | .movHB | .movHC | .movHD | .movHE
  | .movHH | .movHL | .movHA | .movLB | .movLC | .movLD | .movLE | .movLH
  | .movLL | .movLA | .movAB | .movAC | .movAD | .movAE | .movAH | .movAL
  | .movAA | .inxB | .inxD | .inxH | .inxSP | .dcxB | .dcxD | .dcxH
  | .dcxSP | .ret | .pchl | .sphl => .fixed 5
  | .movMB | .movMC | .movMD | .movME | .movMH | .movML | .movMA | .movBM
  | .movCM | .movDM | .movEM | .movHM | .movLM | .movAM | .mviB _ | .mviC _
  | .mviD _ | .mviE _ | .mviH _ | .mviL _ | .mviA _ | .ldaxB | .ldaxD | .staxB
  | .staxD | .addM | .adi _ | .adcM | .aci _ | .subM | .sui _ | .sbbM
  | .sbi _ | .anaM | .ani _ | .xraM | .xri _ | .oraM | .ori _ | .cmpM
  | .cpi _ | .hlt => .fixed 7
  | .mviM _ | .lxiB _ | .lxiD _ | .lxiH _ | .lxiSP _ | .inrM | .dcrM | .dadB
  | .dadD | .dadH | .dadSP | .jmp _ | .jnz _ | .jz _ | .jnc _ | .jc _
  | .jpo _ | .jpe _ | .jp _ | .jm _ | .inPort _ | .outPort _ | .popB | .popD
  | .popH | .popPSW => .fixed 10
  | .lda _ | .sta _ => .fixed 13
  | .lhld _ | .shld _ => .fixed 16
  | .xchg | .addB | .addC | .addD | .addE | .addH | .addL | .addA
  | .adcB | .adcC | .adcD | .adcE | .adcH | .adcL | .adcA | .subB
  | .subC | .subD | .subE | .subH | .subL | .subA | .sbbB | .sbbC
  | .sbbD | .sbbE | .sbbH | .sbbL | .sbbA | .inrB | .inrC | .inrD
  | .inrE | .inrH | .inrL | .inrA | .dcrB | .dcrC | .dcrD | .dcrE
  | .dcrH | .dcrL | .dcrA | .daa | .anaB | .anaC | .anaD | .anaE
  | .anaH | .anaL | .anaA | .xraB | .xraC | .xraD | .xraE | .xraH
  | .xraL | .xraA | .oraB | .oraC | .oraD | .oraE | .oraH | .oraL
  | .oraA | .cmpB | .cmpC | .cmpD | .cmpE | .cmpH | .cmpL | .cmpA
  | .rlc | .rrc | .ral | .rar | .cma | .cmc | .stc | .ei
  | .di | .nop => .fixed 4
  | .call _ => .fixed 17
  | .cnz _ | .cz _ | .cnc _ | .cc _ | .cpo _ | .cpe _ | .cp _ | .cm _ => .conditional 11 17
  | .rnz | .rz | .rnc | .rc | .rpo | .rpe | .rp | .rm => .conditional 5 11
  | .rst0 | .rst1 | .rst2 | .rst3 | .rst4 | .rst5 | .rst6 | .rst7
  | .pushB | .pushD | .pushH | .pushPSW => .fixed 11
  | .unlisted08 | .unlisted10 | .unlisted18 | .unlisted20 | .unlisted28 | .unlisted30 | .unlisted38 | .unlistedCB _
  | .unlistedD9 | .unlistedDD _ | .unlistedED _ | .unlistedFD _ => .unstated
  | .xthl => .fixed 18

end Sys2Proof.Machine
end

