-- ==== Sys2Proof/WellFormed.lean ====
section
/-! DEFINITION. Which terms of `Instr` are instructions. Operand widths are in the types, so one check remains: the 12
unlisted first bytes "spell no instruction" (30_encoding.md R92). -/

namespace Sys2Proof

/-- The term is one of the 244 listed instructions (R87), not one of the 12 unlisted rows (R92). -/
def Instr.wellFormed (i : Instr) : Bool :=
  match i with
  -- 41_data_transfer.md
  | .movBB | .movBC | .movBD | .movBE | .movBH | .movBL | .movBA | .movCB
  | .movCC | .movCD | .movCE | .movCH | .movCL | .movCA | .movDB | .movDC
  | .movDD | .movDE | .movDH | .movDL | .movDA | .movEB | .movEC | .movED
  | .movEE | .movEH | .movEL | .movEA | .movHB | .movHC | .movHD | .movHE
  | .movHH | .movHL | .movHA | .movLB | .movLC | .movLD | .movLE | .movLH
  | .movLL | .movLA | .movAB | .movAC | .movAD | .movAE | .movAH | .movAL
  | .movAA | .movMB | .movMC | .movMD | .movME | .movMH | .movML | .movMA
  | .movBM | .movCM | .movDM | .movEM | .movHM | .movLM | .movAM | .mviB _
  | .mviC _ | .mviD _ | .mviE _ | .mviH _ | .mviL _ | .mviA _ | .mviM _ | .lxiB _
  | .lxiD _ | .lxiH _ | .lxiSP _ | .lda _ | .sta _ | .lhld _ | .shld _ | .ldaxB
  | .ldaxD | .staxB | .staxD | .xchg => true
  -- 42_arithmetic.md
  | .addB | .addC | .addD | .addE | .addH | .addL | .addA | .addM
  | .adi _ | .adcB | .adcC | .adcD | .adcE | .adcH | .adcL | .adcA
  | .adcM | .aci _ | .subB | .subC | .subD | .subE | .subH | .subL
  | .subA | .subM | .sui _ | .sbbB | .sbbC | .sbbD | .sbbE | .sbbH
  | .sbbL | .sbbA | .sbbM | .sbi _ | .inrB | .inrC | .inrD | .inrE
  | .inrH | .inrL | .inrA | .inrM | .dcrB | .dcrC | .dcrD | .dcrE
  | .dcrH | .dcrL | .dcrA | .dcrM | .inxB | .inxD | .inxH | .inxSP
  | .dcxB | .dcxD | .dcxH | .dcxSP | .dadB | .dadD | .dadH | .dadSP
  | .daa => true
  -- 43_logical.md
  | .anaB | .anaC | .anaD | .anaE | .anaH | .anaL | .anaA | .anaM
  | .ani _ | .xraB | .xraC | .xraD | .xraE | .xraH | .xraL | .xraA
  | .xraM | .xri _ | .oraB | .oraC | .oraD | .oraE | .oraH | .oraL
  | .oraA | .oraM | .ori _ | .cmpB | .cmpC | .cmpD | .cmpE | .cmpH
  | .cmpL | .cmpA | .cmpM | .cpi _ | .rlc | .rrc | .ral | .rar
  | .cma | .cmc | .stc => true
  -- 44_branch.md
  | .jmp _ | .jnz _ | .jz _ | .jnc _ | .jc _ | .jpo _ | .jpe _ | .jp _
  | .jm _ | .call _ | .cnz _ | .cz _ | .cnc _ | .cc _ | .cpo _ | .cpe _
  | .cp _ | .cm _ | .ret | .rnz | .rz | .rnc | .rc | .rpo
  | .rpe | .rp | .rm | .rst0 | .rst1 | .rst2 | .rst3 | .rst4
  | .rst5 | .rst6 | .rst7 | .pchl => true
  -- 30_encoding.md R92: the 12 first bytes that neither source lists
  | .unlisted08 | .unlisted10 | .unlisted18 | .unlisted20 | .unlisted28 | .unlisted30 | .unlisted38 | .unlistedCB _
  | .unlistedD9 | .unlistedDD _ | .unlistedED _ | .unlistedFD _ => false
  -- 45_stack_io_control.md
  | .inPort _ | .outPort _ | .pushB | .pushD | .pushH | .pushPSW | .popB | .popD
  | .popH | .popPSW | .xthl | .sphl | .ei | .di | .hlt | .nop => true

end Sys2Proof
end

