-- ==== Sys2Proof/Safety.lean ====
section
/-! DEFINITION. The terms in which statements speak about a run: the invariant of the machine, what an instruction leaves
unchanged, where it may store, and the flags of a result in the words of 10_state.md R26. -/

namespace Sys2Proof.Machine

/-- The invariant of the machine: memory in its canonical form; EI_SHADOW only while INTE = 1 (R33); EI_SHADOW 0 in the
halt (R241: "EI_SHADOW is 0, because `HLT` cleared it"). -/
def State.Inv (s : State) : Prop :=
  Memory.wf s.mem = true ∧ (s.eiShadow = true → s.inte = true) ∧ (s.halted = true → s.eiShadow = false)

/-- Every 8-bit register not listed is unchanged. -/
def sameRegsBut (rs : List Reg8) (s t : State) : Prop := ∀ r : Reg8, r ∉ rs → t.reg r = s.reg r

/-- Every cell of memory whose address is not listed reads as before. -/
def sameMemoryBut (xs : List Word) (s t : State) : Prop := ∀ x : Word, x ∉ xs → t.peek x = s.peek x

/-- The open parameters, the environment's schedules and the output events are unchanged. -/
def sameEnvironment (s t : State) : Prop :=
  t.launch = s.launch ∧ t.env = s.env ∧ t.dma = s.dma ∧ t.inputs = s.inputs ∧ t.outputs = s.outputs

/-- The environment is unchanged and no free value is drawn. -/
def samePlatform (s t : State) : Prop := sameEnvironment s t ∧ t.draws = s.draws

/-- An instruction of length `len` that is not a taken transfer has completed (R23, R33), INTE and HALTED unchanged. -/
def advances (len : Word) (s t : State) : Prop :=
  t.pc = s.pc + len ∧ t.eiShadow = false ∧ t.inte = s.inte ∧ t.halted = s.halted

/-- A control transfer has completed (R23, R33), INTE and HALTED unchanged. -/
def transfers (target : Word) (s t : State) : Prop :=
  t.pc = target ∧ t.eiShadow = false ∧ t.inte = s.inte ∧ t.halted = s.halted

/-- The cell at `x` holds `v` where `x` is ram, and what it held before elsewhere (R57). -/
def cellAfterStore (x : Word) (v : Byte) (s t : State) : Prop :=
  t.peek x = if s.kindAt x = .ram then v else s.peek x

/-- An address whose reads are answered by memory (R57). -/
def State.isMemory (s : State) (x : Word) : Prop := s.kindAt x = .ram ∨ s.kindAt x = .rom

/-- S, Z and P describe the 8-bit result `r` (R26). -/
def zspOf (r : Byte) (f : Flags) : Prop :=
  (f.z = true ↔ r = 0#8) ∧ (f.s = true ↔ 128 ≤ r.toNat) ∧
    (f.p = true ↔ (List.range 8).countP (fun k => r.getLsbD k) % 2 = 0)

/-- Memory is untouched, and every address reads as before. -/
def storesNothing (s t : State) : Prop := t.mem = s.mem ∧ sameMemoryBut [] s t

/-- What an instruction of length `len` that stays inside the registers leaves alone: the 8-bit registers not listed, the
platform, all of memory. SP and the flags are said apart. -/
def registerForm (len : Word) (rs : List Reg8) (s t : State) : Prop :=
  sameRegsBut rs s t ∧ samePlatform s t ∧ storesNothing s t ∧ advances len s t

/-- The effect of an instruction of length `len` that loads register `r` from the byte at `x`, by one `readMem`; with no
external bus master memory is unchanged, and where `x` is memory the byte is the one it holds. -/
def loadsByte (len : Word) (r : Reg8) (x : Word) (s t : State) : Prop :=
  t.reg r = (s.readMem x).1 ∧ sameRegsBut [r] s t ∧ t.sp = s.sp ∧ t.flags = s.flags ∧
    samePlatform (s.readMem x).2 t ∧ t.mem = (s.readMem x).2.mem ∧
    (s.dma = [] → sameMemoryBut [] s t ∧ (s.isMemory x → t.reg r = s.peek x)) ∧ advances len s t

/-- The effect of an instruction of length `len` that stores `v` at `x`, by one `writeMem`; with no external bus master
memory is unchanged but for that byte. -/
def storesByte (len : Word) (x : Word) (v : Byte) (s t : State) : Prop :=
  sameRegsBut [] s t ∧ t.sp = s.sp ∧ t.flags = s.flags ∧ samePlatform (s.writeMem x v) t ∧ t.mem = (s.writeMem x v).mem ∧
    (s.dma = [] → cellAfterStore x v s t ∧ sameMemoryBut [x] s t) ∧ advances len s t

/-- What an accumulator operation with operand `o` leaves alone, besides the registers listed, the flags and the count of
free values. -/
def operandFrame (o : Operand8) (rs : List Reg8) (s t : State) : Prop :=
  sameRegsBut rs s t ∧ t.sp = s.sp ∧ sameEnvironment (s.operand o).2 t ∧ t.mem = (s.operand o).2.mem ∧
    (s.dma = [] → sameMemoryBut [] s t) ∧ advances (operandLength o) s t

/-- The value of an operand in memory, where no external bus master is scheduled and the address is memory. -/
def operandIs (o : Operand8) (v : Byte) (s : State) : Prop :=
  v = (s.operand o).1 ∧
    match o with
    | .reg r => v = s.reg r
    | .imm d => v = d
    | .mem => s.dma = [] → s.isMemory s.hl → v = s.peek s.hl

/-- The word `v` is pushed (R54): SP moves down by 2; with no external bus master only the two stack bytes change. -/
def pushesWord (v : Word) (s t : State) : Prop :=
  t.sp = s.sp - 2#16 ∧ samePlatform (s.push16 v) t ∧ t.mem = (s.push16 v).mem ∧
    (s.dma = [] → cellAfterStore (s.sp - 1#16) (hiByte v) s t ∧ cellAfterStore (s.sp - 2#16) (loByte v) s t ∧
      sameMemoryBut [s.sp - 1#16, s.sp - 2#16] s t)

/-- The word `v` is popped (R54): SP moves up by 2; with no external bus master memory is unchanged, and where the two
addresses are memory `v` is the word they hold, low byte at SP. -/
def popsWord (v : Word) (s t : State) : Prop :=
  v = s.pop16.1 ∧ t.sp = s.sp + 2#16 ∧ samePlatform s.pop16.2 t ∧ t.mem = s.pop16.2.mem ∧
    (s.dma = [] → sameMemoryBut [] s t ∧
      (s.isMemory s.sp → s.isMemory (s.sp + 1#16) → v = joinBytes (s.peek (s.sp + 1#16)) (s.peek s.sp)))

/-- The 8-bit registers of a pair (R22). -/
def pairRegs : RegPair → List Reg8
  | .bc => [.b, .c]
  | .de => [.d, .e]
  | .hl => [.h, .l]
  | .sp => []

/-- The 8-bit registers that `POP` of a pair writes (R212, R213). -/
def stackPairRegs : StackPair → List Reg8
  | .bc => [.b, .c]
  | .de => [.d, .e]
  | .hl => [.h, .l]
  | .psw => [.a]

/-- The `ddd` or `sss` field of a register (R83). -/
def regField : Reg8 → Byte
  | .b => 0#8
  | .c => 1#8
  | .d => 2#8
  | .e => 3#8
  | .h => 4#8
  | .l => 5#8
  | .a => 7#8

/-- The 12 first bytes that neither source lists (R92). -/
def unlistedBytes : List Byte :=
  [0x08#8, 0x10#8, 0x18#8, 0x20#8, 0x28#8, 0x30#8, 0x38#8, 0xCB#8, 0xD9#8, 0xDD#8, 0xED#8, 0xFD#8]

/-- Nothing happens at the coming boundary but the fetch of an instruction or another moment of a halt: `env` presents no
RESET there, and INT only while interrupts are not effective (R234). -/
def State.quiet (s : State) : Prop :=
  ∀ b, s.env.head? = some b → b.reset = false ∧ (b.int = none ∨ s.inte = false ∨ s.eiShadow = true)

/-- The addresses an instruction stores to, as its meaning computes them (R55). -/
def storeAddresses (i : Instr) (s : State) : List Word :=
  match i with
  | .movMB | .movMC | .movMD | .movME | .movMH | .movML | .movMA | .mviM _
  | .inrM | .dcrM => [s.hl]
  | .sta addr => [addr]
  | .shld addr => [addr, addr + 1#16]
  | .staxB => [s.pair .bc]
  | .staxD => [s.pair .de]
  | .call _ | .rst0 | .rst1 | .rst2 | .rst3 | .rst4 | .rst5 | .rst6
  | .rst7 | .unlistedDD _ | .unlistedED _ | .unlistedFD _ | .pushB | .pushD | .pushH | .pushPSW => [s.sp - 1#16, s.sp - 2#16]
  | .cnz _ => if condHolds .nz s.flags then [s.sp - 1#16, s.sp - 2#16] else []
  | .cz _ => if condHolds .z s.flags then [s.sp - 1#16, s.sp - 2#16] else []
  | .cnc _ => if condHolds .nc s.flags then [s.sp - 1#16, s.sp - 2#16] else []
  | .cc _ => if condHolds .c s.flags then [s.sp - 1#16, s.sp - 2#16] else []
  | .cpo _ => if condHolds .po s.flags then [s.sp - 1#16, s.sp - 2#16] else []
  | .cpe _ => if condHolds .pe s.flags then [s.sp - 1#16, s.sp - 2#16] else []
  | .cp _ => if condHolds .p s.flags then [s.sp - 1#16, s.sp - 2#16] else []
  | .cm _ => if condHolds .m s.flags then [s.sp - 1#16, s.sp - 2#16] else []
  | .xthl => [s.sp + 1#16, s.sp]
  | .movBB | .movBC | .movBD | .movBE | .movBH | .movBL | .movBA | .movCB
  | .movCC | .movCD | .movCE | .movCH | .movCL | .movCA | .movDB | .movDC
  | .movDD | .movDE | .movDH | .movDL | .movDA | .movEB | .movEC | .movED
  | .movEE | .movEH | .movEL | .movEA | .movHB | .movHC | .movHD | .movHE
  | .movHH | .movHL | .movHA | .movLB | .movLC | .movLD | .movLE | .movLH
  | .movLL | .movLA | .movAB | .movAC | .movAD | .movAE | .movAH | .movAL
  | .movAA | .movBM | .movCM | .movDM | .movEM | .movHM | .movLM | .movAM
  | .mviB _ | .mviC _ | .mviD _ | .mviE _ | .mviH _ | .mviL _ | .mviA _ | .lxiB _
  | .lxiD _ | .lxiH _ | .lxiSP _ | .lda _ | .lhld _ | .ldaxB | .ldaxD | .xchg
  | .addB | .addC | .addD | .addE | .addH | .addL | .addA | .addM
  | .adi _ | .adcB | .adcC | .adcD | .adcE | .adcH | .adcL | .adcA
  | .adcM | .aci _ | .subB | .subC | .subD | .subE | .subH | .subL
  | .subA | .subM | .sui _ | .sbbB | .sbbC | .sbbD | .sbbE | .sbbH
  | .sbbL | .sbbA | .sbbM | .sbi _ | .inrB | .inrC | .inrD | .inrE
  | .inrH | .inrL | .inrA | .dcrB | .dcrC | .dcrD | .dcrE | .dcrH
  | .dcrL | .dcrA | .inxB | .inxD | .inxH | .inxSP | .dcxB | .dcxD
  | .dcxH | .dcxSP | .dadB | .dadD | .dadH | .dadSP | .daa | .anaB
  | .anaC | .anaD | .anaE | .anaH | .anaL | .anaA | .anaM | .ani _
  | .xraB | .xraC | .xraD | .xraE | .xraH | .xraL | .xraA | .xraM
  | .xri _ | .oraB | .oraC | .oraD | .oraE | .oraH | .oraL | .oraA
  | .oraM | .ori _ | .cmpB | .cmpC | .cmpD | .cmpE | .cmpH | .cmpL
  | .cmpA | .cmpM | .cpi _ | .rlc | .rrc | .ral | .rar | .cma
  | .cmc | .stc | .jmp _ | .jnz _ | .jz _ | .jnc _ | .jc _ | .jpo _
  | .jpe _ | .jp _ | .jm _ | .ret | .rnz | .rz | .rnc | .rc
  | .rpo | .rpe | .rp | .rm | .pchl | .unlisted08 | .unlisted10 | .unlisted18
  | .unlisted20 | .unlisted28 | .unlisted30 | .unlisted38 | .unlistedCB _ | .unlistedD9 | .inPort _ | .outPort _
  | .popB | .popD | .popH | .popPSW | .sphl | .ei | .di | .hlt
  | .nop => []

/-- The first byte of an instruction. -/
def opcodeOf (i : Instr) : Byte := (encode i).headD 0#8

/-- The rows of R28 that write S, Z, AC and P: the accumulator operations, INR and DCR, DAA, POP PSW. -/
def writesSZAP (op : Byte) : Bool :=
  op &&& 0xC0#8 == 0x80#8 || op &&& 0xC7#8 == 0xC6#8 || op &&& 0xC6#8 == 0x04#8 || op == 0x27#8 || op == 0xF1#8

/-- The rows of R28 that write CY: the accumulator operations, DAD, DAA, the rotates, CMC, STC, POP PSW. -/
def writesCY (op : Byte) : Bool :=
  op &&& 0xC0#8 == 0x80#8 || op &&& 0xC7#8 == 0xC6#8 || op &&& 0xCF#8 == 0x09#8 || op == 0x27#8 ||
    op &&& 0xE7#8 == 0x07#8 || op == 0x3F#8 || op == 0x37#8 || op == 0xF1#8

/-- The instructions R24 names as writing SP: LXI SP, SPHL, INX SP, DCX SP, PUSH, POP, CALL, Ccc, RET, Rcc, RST; and the
unlisted bytes that may act as RET or CALL (R92). -/
def mayWriteSP (op : Byte) : Bool :=
  op == 0x31#8 || op == 0xF9#8 || op == 0x33#8 || op == 0x3B#8 || op &&& 0xCF#8 == 0xC5#8 || op &&& 0xCF#8 == 0xC1#8 ||
    op == 0xCD#8 || op &&& 0xC7#8 == 0xC4#8 || op == 0xC9#8 || op &&& 0xC7#8 == 0xC0#8 || op &&& 0xC7#8 == 0xC7#8 ||
    op == 0xD9#8 || op == 0xDD#8 || op == 0xED#8 || op == 0xFD#8

/-- The control transfers of 44_branch.md: JMP, Jcc, CALL, Ccc, RET, Rcc, RST, PCHL; and the unlisted bytes that may act
as JMP, RET or CALL (R92). -/
def mayTransfer (op : Byte) : Bool :=
  op == 0xC3#8 || op &&& 0xC7#8 == 0xC2#8 || op == 0xCD#8 || op &&& 0xC7#8 == 0xC4#8 || op == 0xC9#8 ||
    op &&& 0xC7#8 == 0xC0#8 || op &&& 0xC7#8 == 0xC7#8 || op == 0xE9#8 ||
    op == 0xCB#8 || op == 0xD9#8 || op == 0xDD#8 || op == 0xED#8 || op == 0xFD#8

/-- A packed BCD byte: both nibbles are decimal digits. -/
def isBcd (v : Byte) : Prop := v.toNat / 16 ≤ 9 ∧ v.toNat % 16 ≤ 9

/-- The number a packed BCD byte stands for. -/
def bcdValue (v : Byte) : Nat := 10 * (v.toNat / 16) + v.toNat % 16

end Sys2Proof.Machine
end

