-- ==== Sys2Proof/Certificates/Slice0/Obligations.lean ====
section
/-! DEFINITION. The statements for the provers. What they are stated from is cited in OBLIGATIONS.json; a docstring says
so where a statement rests on a sentence that the spec itself marks (`[from general knowledge, not in source]`, or its own
choice) or on a choice of the model, and names the log entry (notes/assumptions). Every statement about memory content
that names no bus-master writes asks for `s.dma = []`, the spec's default `DMA_AGENT` (R5, R68). That an instruction other
than EI clears EI_SHADOW, part of `advances` and `transfers`, is R33's two-bit reading of EI (log 20). -/

open Sys2Proof Sys2Proof.Machine

/-! ### Encoding -/

/-- R80, R81, R87: the decoder reads back what the encoder writes, whatever follows, and drops no bit of an operand; for
the 12 unlisted rows as for the 244 listed ones. -/
def Obligations.DecodeReadsBackEveryEncoding : Prop :=
  ∀ (i : Instr) (rest : List Byte), decode (encode i ++ rest) = .ok (i, rest)

/-- R80: every byte string has at most one spelling: what the decoder accepts is the encoding of what it answers. -/
def Obligations.EncodeWritesBackEveryDecoding : Prop :=
  ∀ (bytes : List Byte) (i : Instr) (rest : List Byte), decode bytes = .ok (i, rest) → encode i ++ rest = bytes

/-- R89: the length of a listed instruction from its first byte. -/
def Obligations.FirstByteTellsTheLength : Prop :=
  ∀ (op b2 b3 : Byte) (tail : List Byte), op ∉ unlistedBytes →
    ∃ i : Instr, i.wellFormed = true ∧ decode (op :: b2 :: b3 :: tail) =
      .ok (i, (op :: b2 :: b3 :: tail).drop
        (if op &&& 0xCF#8 = 0x01#8 ∨ op ∈ [0x22#8, 0x2A#8, 0x32#8, 0x3A#8] ∨ op &&& 0xC7#8 = 0xC2#8 ∨ op = 0xC3#8 ∨
            op &&& 0xC7#8 = 0xC4#8 ∨ op = 0xCD#8 then 3
          else if op &&& 0xC7#8 = 0x06#8 ∨ op &&& 0xC7#8 = 0xC6#8 ∨ op ∈ [0xD3#8, 0xDB#8] then 2
          else 1))

/-- R92: exactly the 12 unlisted values spell no instruction, whatever bytes follow. -/
def Obligations.ExactlyTwelveBytesSpellNoInstruction : Prop :=
  ∀ (op b2 b3 : Byte) (tail rest : List Byte) (i : Instr), decode (op :: b2 :: b3 :: tail) = .ok (i, rest) →
    (i.wellFormed = false ↔ op ∈ unlistedBytes)

/-- R87: words written out from the encodings, one or more of each group, decode to the instruction they stand for. The
operands of LXI, JNZ and JMP rest on the byte order of R86 and R51, marked by the spec (log 17); that 08H has a row of its
own, which spells no instruction (R92), is the model's form of it (log 24). -/
def Obligations.SampleWordsDecode : Prop :=
  decode [0x41#8] = .ok (.movBC, []) ∧ decode [0x76#8] = .ok (.hlt, []) ∧
    decode [0x21#8, 0x34#8, 0x12#8] = .ok (.lxiH 0x1234#16, []) ∧ decode [0x12#8] = .ok (.staxD, []) ∧
    decode [0xD6#8, 0x01#8] = .ok (.sui 0x01#8, []) ∧ decode [0x34#8] = .ok (.inrM, []) ∧
    decode [0xBE#8] = .ok (.cmpM, []) ∧ decode [0x39#8] = .ok (.dadSP, []) ∧
    decode [0xE6#8, 0x0F#8] = .ok (.ani 0x0F#8, []) ∧ decode [0x1F#8] = .ok (.rar, []) ∧
    decode [0xC2#8, 0x34#8, 0x12#8] = .ok (.jnz 0x1234#16, []) ∧ decode [0xEF#8] = .ok (.rst5, []) ∧
    decode [0xDB#8, 0x10#8] = .ok (.inPort 0x10#8, []) ∧ decode [0xF5#8] = .ok (.pushPSW, []) ∧
    decodeTableWord 24 0x1234C3 = some (.jmp 0x1234#16) ∧ decodeTableWord 8 0x08 = some .unlisted08

/-! ### Data transfer -/

/-- R110, R113, encodings included. That EI_SHADOW is 0 afterwards is R33's two-bit reading of EI (log 20). -/
def Obligations.MovAndMviSetOneRegister : Prop :=
  ∀ (r1 r2 : Reg8) (data : Byte) (s : State),
    (encode (.mov r1 r2) = [0x40#8 + 8#8 * regField r1 + regField r2] ∧
      ∃ t, exec (.mov r1 r2) s = .next t ∧ t.reg r1 = s.reg r2 ∧ registerForm 1#16 [r1] s t ∧ t.sp = s.sp ∧
        t.flags = s.flags) ∧
    (encode (.mvi r1 data) = [0x06#8 + 8#8 * regField r1, data] ∧
      ∃ t, exec (.mvi r1 data) s = .next t ∧ t.reg r1 = data ∧ registerForm 2#16 [r1] s t ∧ t.sp = s.sp ∧
        t.flags = s.flags)

/-- R112, R116, R120: MOV r,M, LDA and LDAX. The address of MOV r,M is HL as it was, also where the destination is H or L. -/
def Obligations.ByteLoadsReadOneCell : Prop :=
  ∀ (r : Reg8) (addr : Word) (s : State),
    (∃ t, exec (.movFromM r) s = .next t ∧ loadsByte 1#16 r s.hl s t) ∧
    (∃ t, exec (.lda addr) s = .next t ∧ loadsByte 3#16 .a addr s t) ∧
    (∃ t, exec .ldaxB s = .next t ∧ loadsByte 1#16 .a (s.pair .bc) s t) ∧
    (∃ t, exec .ldaxD s = .next t ∧ loadsByte 1#16 .a (s.pair .de) s t)

/-- R111, R114, R117, R121: MOV M,r, MVI M, STA and STAX. -/
def Obligations.ByteStoresWriteOneCell : Prop :=
  ∀ (r : Reg8) (data : Byte) (addr : Word) (s : State),
    (∃ t, exec (.movToM r) s = .next t ∧ storesByte 1#16 s.hl (s.reg r) s t) ∧
    (∃ t, exec (.mviM data) s = .next t ∧ storesByte 2#16 s.hl data s t) ∧
    (∃ t, exec (.sta addr) s = .next t ∧ storesByte 3#16 addr s.a s t) ∧
    (∃ t, exec .staxB s = .next t ∧ storesByte 1#16 (s.pair .bc) s.a s t) ∧
    (∃ t, exec .staxD s = .next t ∧ storesByte 1#16 (s.pair .de) s.a s t)

/-- R115, R215: LXI and SPHL. Which register of a pair is the high half is R22's, which the spec marks (log 17). -/
def Obligations.LxiAndSphlLoadAPair : Prop :=
  ∀ (p : RegPair) (v : Word) (s : State),
    (∃ t, exec (.lxi p v) s = .next t ∧
      (match p with
        | .bc => t.b = hiByte v ∧ t.c = loByte v
        | .de => t.d = hiByte v ∧ t.e = loByte v
        | .hl => t.h = hiByte v ∧ t.l = loByte v
        | .sp => t.sp = v) ∧
      registerForm 3#16 (pairRegs p) s t ∧ (p ≠ .sp → t.sp = s.sp) ∧ t.flags = s.flags) ∧
    (∃ t, exec .sphl s = .next t ∧ t.sp = joinBytes s.h s.l ∧ registerForm 1#16 [] s t ∧ t.flags = s.flags)

/-- R118, R119, R52: LHLD and SHLD; the byte at the lower address is L's (marked by the spec, log 17). -/
def Obligations.LhldAndShldMoveAWord : Prop :=
  ∀ (addr : Word) (s : State),
    (∃ t, exec (.lhld addr) s = .next t ∧
      t.l = (s.readMem addr).1 ∧ t.h = ((s.readMem addr).2.readMem (addr + 1#16)).1 ∧
      sameRegsBut [.h, .l] s t ∧ t.sp = s.sp ∧ t.flags = s.flags ∧ samePlatform (s.readMem16 addr).2 t ∧
      t.mem = (s.readMem16 addr).2.mem ∧
      (s.dma = [] → sameMemoryBut [] s t ∧ (s.isMemory addr → t.l = s.peek addr) ∧
        (s.isMemory (addr + 1#16) → t.h = s.peek (addr + 1#16))) ∧ advances 3#16 s t) ∧
    (∃ t, exec (.shld addr) s = .next t ∧
      sameRegsBut [] s t ∧ t.sp = s.sp ∧ t.flags = s.flags ∧ samePlatform (s.writeMem16 addr s.hl) t ∧
      t.mem = (s.writeMem16 addr s.hl).mem ∧
      (s.dma = [] → cellAfterStore addr s.l s t ∧ cellAfterStore (addr + 1#16) s.h s t ∧
        sameMemoryBut [addr, addr + 1#16] s t) ∧ advances 3#16 s t)

/-- R122, encoding included. That EI_SHADOW is 0 afterwards is R33's two-bit reading of EI (log 20). -/
def Obligations.XchgSwapsDeAndHl : Prop :=
  encode .xchg = [0xEB#8] ∧ ∀ s : State,
    ∃ t, exec .xchg s = .next t ∧ t.h = s.d ∧ t.l = s.e ∧ t.d = s.h ∧ t.e = s.l ∧
      registerForm 1#16 [.h, .l, .d, .e] s t ∧ t.sp = s.sp ∧ t.flags = s.flags

/-! ### Arithmetic -/

/-- R130, R132 to R137: ADD, ADI, ADC, ACI, in numbers. That CY and AC are the carries out of bits 7 and 3 is marked by
the spec (log 17). -/
def Obligations.AddAndAdcGiveTheSum : Prop :=
  ∀ (o : Operand8) (s : State), ∃ v, operandIs o v s ∧
    (∃ t, exec (.add o) s = .next t ∧ t.a.toNat = (s.a.toNat + v.toNat) % 256 ∧
      (t.flags.cy = true ↔ 256 ≤ s.a.toNat + v.toNat) ∧
      (t.flags.ac = true ↔ 16 ≤ s.a.toNat % 16 + v.toNat % 16) ∧ zspOf t.a t.flags ∧
      operandFrame o [.a] s t ∧ t.draws = (s.operand o).2.draws) ∧
    (∃ t, exec (.adc o) s = .next t ∧ t.a.toNat = (s.a.toNat + v.toNat + s.flags.cy.toNat) % 256 ∧
      (t.flags.cy = true ↔ 256 ≤ s.a.toNat + v.toNat + s.flags.cy.toNat) ∧
      (t.flags.ac = true ↔ 16 ≤ s.a.toNat % 16 + v.toNat % 16 + s.flags.cy.toNat) ∧ zspOf t.a t.flags ∧
      operandFrame o [.a] s t ∧ t.draws = (s.operand o).2.draws)

/-- R131, R138 to R143: SUB, SUI, SBB, SBI, in numbers: CY is the borrow, AC the absence of a borrow from bit 4 (both
marked by the spec, log 17). -/
def Obligations.SubAndSbbGiveTheDifference : Prop :=
  ∀ (o : Operand8) (s : State), ∃ v, operandIs o v s ∧
    (∃ t, exec (.sub o) s = .next t ∧ (t.a.toNat : Int) = ((s.a.toNat : Int) - v.toNat) % 256 ∧
      (t.flags.cy = true ↔ s.a.toNat < v.toNat) ∧ (t.flags.ac = true ↔ v.toNat % 16 ≤ s.a.toNat % 16) ∧
      zspOf t.a t.flags ∧ operandFrame o [.a] s t ∧ t.draws = (s.operand o).2.draws) ∧
    (∃ t, exec (.sbb o) s = .next t ∧
      (t.a.toNat : Int) = ((s.a.toNat : Int) - v.toNat - s.flags.cy.toNat) % 256 ∧
      (t.flags.cy = true ↔ s.a.toNat < v.toNat + s.flags.cy.toNat) ∧
      (t.flags.ac = true ↔ v.toNat % 16 + s.flags.cy.toNat ≤ s.a.toNat % 16) ∧
      zspOf t.a t.flags ∧ operandFrame o [.a] s t ∧ t.draws = (s.operand o).2.draws)

/-- R170 to R172: CMP and CPI write the flags of the subtraction and no register: Z is equality, CY is "less than". That CY
is the borrow and AC the absence of a borrow from bit 4 is R131's, marked by the spec (log 17). -/
def Obligations.CmpOnlyCompares : Prop :=
  ∀ (o : Operand8) (s : State), ∃ v, operandIs o v s ∧
    ∃ t, exec (.cmp o) s = .next t ∧ (t.flags.z = true ↔ s.a = v) ∧ (t.flags.cy = true ↔ s.a.toNat < v.toNat) ∧
      (t.flags.ac = true ↔ v.toNat % 16 ≤ s.a.toNat % 16) ∧ zspOf (s.a - v) t.flags ∧
      operandFrame o [] s t ∧ t.draws = (s.operand o).2.draws

/-- R144, R146: INR r and DCR r: CY is not affected; the AC formulas are marked by the spec (log 17). -/
def Obligations.InrAndDcrOfARegister : Prop :=
  ∀ (r : Reg8) (s : State),
    (∃ t, exec (.inr r) s = .next t ∧ (t.reg r).toNat = ((s.reg r).toNat + 1) % 256 ∧ zspOf (t.reg r) t.flags ∧
      (t.flags.ac = true ↔ (t.reg r).toNat % 16 = 0) ∧ t.flags.cy = s.flags.cy ∧
      registerForm 1#16 [r] s t ∧ t.sp = s.sp) ∧
    (∃ t, exec (.dcr r) s = .next t ∧ (t.reg r).toNat = ((s.reg r).toNat + 255) % 256 ∧ zspOf (t.reg r) t.flags ∧
      (t.flags.ac = true ↔ (t.reg r).toNat % 16 ≠ 15) ∧ t.flags.cy = s.flags.cy ∧
      registerForm 1#16 [r] s t ∧ t.sp = s.sp)

/-- R145, R147, R55: INR M and DCR M read the byte at HL and then write it. The AC formulas (R144, R146) and the order of the
two accesses (R55) are marked by the spec (log 17). -/
def Obligations.InrAndDcrOfMemory : Prop :=
  ∀ s : State,
    (∃ t, exec .inrM s = .next t ∧ zspOf ((s.readMem s.hl).1 + 1#8) t.flags ∧
      (t.flags.ac = true ↔ ((s.readMem s.hl).1.toNat + 1) % 16 = 0) ∧ t.flags.cy = s.flags.cy ∧
      sameRegsBut [] s t ∧ t.sp = s.sp ∧
      samePlatform ((s.readMem s.hl).2.writeMem s.hl ((s.readMem s.hl).1 + 1#8)) t ∧
      t.mem = ((s.readMem s.hl).2.writeMem s.hl ((s.readMem s.hl).1 + 1#8)).mem ∧
      (s.dma = [] → sameMemoryBut [s.hl] s t ∧ (s.kindAt s.hl = .ram → t.peek s.hl = s.peek s.hl + 1#8)) ∧
      advances 1#16 s t) ∧
    (∃ t, exec .dcrM s = .next t ∧ zspOf ((s.readMem s.hl).1 - 1#8) t.flags ∧
      (t.flags.ac = true ↔ (s.readMem s.hl).1.toNat % 16 ≠ 0) ∧ t.flags.cy = s.flags.cy ∧
      sameRegsBut [] s t ∧ t.sp = s.sp ∧
      samePlatform ((s.readMem s.hl).2.writeMem s.hl ((s.readMem s.hl).1 - 1#8)) t ∧
      t.mem = ((s.readMem s.hl).2.writeMem s.hl ((s.readMem s.hl).1 - 1#8)).mem ∧
      (s.dma = [] → sameMemoryBut [s.hl] s t ∧ (s.kindAt s.hl = .ram → t.peek s.hl = s.peek s.hl - 1#8)) ∧
      advances 1#16 s t)

/-- R148, R149: INX and DCX: the pair as a 16-bit number, no flag. -/
def Obligations.InxAndDcxOfAPair : Prop :=
  ∀ (p : RegPair) (s : State),
    (∃ t, exec (.inx p) s = .next t ∧ (t.pair p).toNat = ((s.pair p).toNat + 1) % 65536 ∧ t.flags = s.flags ∧
      registerForm 1#16 (pairRegs p) s t ∧ (p ≠ .sp → t.sp = s.sp)) ∧
    (∃ t, exec (.dcx p) s = .next t ∧ (t.pair p).toNat = ((s.pair p).toNat + 65535) % 65536 ∧ t.flags = s.flags ∧
      registerForm 1#16 (pairRegs p) s t ∧ (p ≠ .sp → t.sp = s.sp))

/-- R150: DAD: HL gets the sum, CY its carry out of bit 15 (marked by the spec, log 17), no other flag. -/
def Obligations.DadAddsAPairToHl : Prop :=
  ∀ (p : RegPair) (s : State), ∃ t, exec (.dad p) s = .next t ∧
    t.hl.toNat = (s.hl.toNat + (s.pair p).toNat) % 65536 ∧
    (t.flags.cy = true ↔ 65536 ≤ s.hl.toNat + (s.pair p).toNat) ∧
    t.flags.s = s.flags.s ∧ t.flags.z = s.flags.z ∧ t.flags.ac = s.flags.ac ∧ t.flags.p = s.flags.p ∧
    registerForm 1#16 [.h, .l] s t ∧ t.sp = s.sp

/-- R151: DAA, with the second correction said by the value of A as a whole: it is made where A exceeds 99H or CY is set.
How AC and CY come out is marked by the spec (log 17). -/
def Obligations.DaaAdjustsToDecimal : Prop :=
  ∀ s : State, ∃ t, exec .daa s = .next t ∧
    t.a.toNat = (s.a.toNat + (if 9 < s.a.toNat % 16 ∨ s.flags.ac = true then 6 else 0) +
      (if 0x99 < s.a.toNat ∨ s.flags.cy = true then 0x60 else 0)) % 256 ∧
    (t.flags.cy = true ↔ 0x99 < s.a.toNat ∨ s.flags.cy = true) ∧
    (t.flags.ac = true ↔
      16 ≤ s.a.toNat % 16 + (if 9 < s.a.toNat % 16 ∨ s.flags.ac = true then 6 else 0)) ∧
    zspOf t.a t.flags ∧ registerForm 1#16 [.a] s t ∧ t.sp = s.sp

/-- R152 (f): two packed BCD bytes are added, with the carry in CY, by ADC and then DAA: the result is packed BCD and CY
its decimal carry. Rests on the marked parts of R130 and R151 (log 17). -/
def Obligations.AdcThenDaaAddsPackedBcd : Prop :=
  ∀ (r : Reg8) (s : State), isBcd s.a → isBcd (s.reg r) →
    ∃ t u, exec (.adc (.reg r)) s = .next t ∧ exec .daa t = .next u ∧ isBcd u.a ∧
      bcdValue u.a = (bcdValue s.a + bcdValue (s.reg r) + s.flags.cy.toNat) % 100 ∧
      (u.flags.cy = true ↔ 100 ≤ bcdValue s.a + bcdValue (s.reg r) + s.flags.cy.toNat)

/-! ### Logic -/

/-- R160 to R163: ANA and ANI. AC follows the open parameter of its instruction: where that is any value, it is a free
value, one more is drawn and nothing is said of it. -/
def Obligations.AnaAndAniGiveTheAnd : Prop :=
  ∀ (o : Operand8) (rule : Config.AcRule) (s : State),
    (match o with
      | .reg _ => rule = s.launch.anaAc
      | .mem => rule = s.launch.anaAc
      | .imm _ => rule = s.launch.aniAc) →
    ∃ v, operandIs o v s ∧ ∃ t, exec (.ana o) s = .next t ∧ t.a = s.a &&& v ∧ zspOf t.a t.flags ∧ t.flags.cy = false ∧
      (rule = .cleared → t.flags.ac = false) ∧ (rule = .orBit3 → t.flags.ac = (s.a ||| v).getLsbD 3) ∧
      t.draws = (s.operand o).2.draws + (if rule = .anyValue then 1 else 0) ∧ operandFrame o [.a] s t

/-- R160, R164 to R169: XRA, XRI, ORA, ORI. -/
def Obligations.XraAndOraGiveTheResult : Prop :=
  ∀ (o : Operand8) (s : State), ∃ v, operandIs o v s ∧
    (∃ t, exec (.xra o) s = .next t ∧ t.a = s.a ^^^ v ∧ zspOf t.a t.flags ∧ t.flags.cy = false ∧ t.flags.ac = false ∧
      operandFrame o [.a] s t ∧ t.draws = (s.operand o).2.draws) ∧
    (∃ t, exec (.ora o) s = .next t ∧ t.a = s.a ||| v ∧ zspOf t.a t.flags ∧ t.flags.cy = false ∧ t.flags.ac = false ∧
      operandFrame o [.a] s t ∧ t.draws = (s.operand o).2.draws)

/-- R173 to R176, bit by bit, encodings included. That EI_SHADOW is 0 afterwards is R33's two-bit reading of EI (log 20). -/
def Obligations.RotatesMoveEveryBit : Prop :=
  (encode .rlc = [0x07#8] ∧ encode .rrc = [0x0F#8] ∧ encode .ral = [0x17#8] ∧ encode .rar = [0x1F#8]) ∧ ∀ s : State,
    (∃ t, exec .rlc s = .next t ∧ (∀ k, k < 7 → t.a.getLsbD (k + 1) = s.a.getLsbD k) ∧ t.a.getLsbD 0 = s.a.getLsbD 7 ∧
      t.flags.cy = s.a.getLsbD 7 ∧ t.flags = { s.flags with cy := t.flags.cy } ∧ registerForm 1#16 [.a] s t ∧ t.sp = s.sp) ∧
    (∃ t, exec .rrc s = .next t ∧ (∀ k, k < 7 → t.a.getLsbD k = s.a.getLsbD (k + 1)) ∧ t.a.getLsbD 7 = s.a.getLsbD 0 ∧
      t.flags.cy = s.a.getLsbD 0 ∧ t.flags = { s.flags with cy := t.flags.cy } ∧ registerForm 1#16 [.a] s t ∧ t.sp = s.sp) ∧
    (∃ t, exec .ral s = .next t ∧ (∀ k, k < 7 → t.a.getLsbD (k + 1) = s.a.getLsbD k) ∧ t.a.getLsbD 0 = s.flags.cy ∧
      t.flags.cy = s.a.getLsbD 7 ∧ t.flags = { s.flags with cy := t.flags.cy } ∧ registerForm 1#16 [.a] s t ∧ t.sp = s.sp) ∧
    (∃ t, exec .rar s = .next t ∧ (∀ k, k < 7 → t.a.getLsbD k = s.a.getLsbD (k + 1)) ∧ t.a.getLsbD 7 = s.flags.cy ∧
      t.flags.cy = s.a.getLsbD 0 ∧ t.flags = { s.flags with cy := t.flags.cy } ∧ registerForm 1#16 [.a] s t ∧ t.sp = s.sp)

/-- R177 to R179, encodings included. That EI_SHADOW is 0 afterwards is R33's two-bit reading of EI (log 20). -/
def Obligations.ComplementsAndSetCarry : Prop :=
  (encode .cma = [0x2F#8] ∧ encode .cmc = [0x3F#8] ∧ encode .stc = [0x37#8]) ∧ ∀ s : State,
    (∃ t, exec .cma s = .next t ∧ (∀ k, k < 8 → t.a.getLsbD k = !s.a.getLsbD k) ∧ t.flags = s.flags ∧
      registerForm 1#16 [.a] s t ∧ t.sp = s.sp) ∧
    (∃ t, exec .cmc s = .next t ∧ t.flags = { s.flags with cy := !s.flags.cy } ∧ registerForm 1#16 [] s t ∧ t.sp = s.sp) ∧
    (∃ t, exec .stc s = .next t ∧ t.flags = { s.flags with cy := true } ∧ registerForm 1#16 [] s t ∧ t.sp = s.sp)

/-! ### Branches -/

/-- R30, with the numbers of the conditions from the conditional jumps' first bytes. -/
def Obligations.ConditionsTestTheirFlag : Prop :=
  ∀ (f : Flags) (addr : Word),
    (condHolds .nz f = true ↔ f.z = false) ∧ (condHolds .z f = true ↔ f.z = true) ∧
    (condHolds .nc f = true ↔ f.cy = false) ∧ (condHolds .c f = true ↔ f.cy = true) ∧
    (condHolds .po f = true ↔ f.p = false) ∧ (condHolds .pe f = true ↔ f.p = true) ∧
    (condHolds .p f = true ↔ f.s = false) ∧ (condHolds .m f = true ↔ f.s = true) ∧
    [Cond.nz, .z, .nc, .c, .po, .pe, .p, .m].map (fun q => opcodeOf (.jumpIf q addr)) =
      [0xC2#8, 0xCA#8, 0xD2#8, 0xDA#8, 0xE2#8, 0xEA#8, 0xF2#8, 0xFA#8] ∧
    [Cond.nz, .z, .nc, .c, .po, .pe, .p, .m].map (fun q => opcodeOf (.callIf q addr)) =
      [0xC4#8, 0xCC#8, 0xD4#8, 0xDC#8, 0xE4#8, 0xEC#8, 0xF4#8, 0xFC#8] ∧
    [Cond.nz, .z, .nc, .c, .po, .pe, .p, .m].map (fun q => opcodeOf (.returnIf q)) =
      [0xC0#8, 0xC8#8, 0xD0#8, 0xD8#8, 0xE0#8, 0xE8#8, 0xF0#8, 0xF8#8]

/-- R190, R191, R197: JMP, Jcc and PCHL. -/
def Obligations.JumpsTransferControl : Prop :=
  ∀ (cond : Cond) (addr : Word) (s : State),
    (∃ t, exec (.jmp addr) s = .next t ∧ sameRegsBut [] s t ∧ t.sp = s.sp ∧ t.flags = s.flags ∧ samePlatform s t ∧
      storesNothing s t ∧ transfers addr s t) ∧
    (∃ t, exec (.jumpIf cond addr) s = .next t ∧ sameRegsBut [] s t ∧ t.sp = s.sp ∧ t.flags = s.flags ∧
      samePlatform s t ∧ storesNothing s t ∧
      (condHolds cond s.flags = true → transfers addr s t) ∧ (condHolds cond s.flags = false → advances 3#16 s t)) ∧
    (∃ t, exec .pchl s = .next t ∧ sameRegsBut [] s t ∧ t.sp = s.sp ∧ t.flags = s.flags ∧ samePlatform s t ∧
      storesNothing s t ∧ transfers (joinBytes s.h s.l) s t)

/-- R192, R193, R196, R54: CALL, Ccc and RST push the address of the next instruction. The stack's layout is marked by the
spec (log 17). -/
def Obligations.CallsPushTheReturnAddress : Prop :=
  ∀ (cond : Cond) (n : Octal) (addr : Word) (s : State),
    (∃ t, exec (.call addr) s = .next t ∧ pushesWord (s.pc + 3#16) s t ∧ sameRegsBut [] s t ∧ t.flags = s.flags ∧
      transfers addr s t) ∧
    (∃ t, exec (.callIf cond addr) s = .next t ∧
      (condHolds cond s.flags = true → pushesWord (s.pc + 3#16) s t ∧ sameRegsBut [] s t ∧ t.flags = s.flags ∧
        transfers addr s t) ∧
      (condHolds cond s.flags = false → registerForm 3#16 [] s t ∧ t.sp = s.sp ∧ t.flags = s.flags)) ∧
    (∃ t, exec (.rst n) s = .next t ∧ pushesWord (s.pc + 1#16) s t ∧ sameRegsBut [] s t ∧ t.flags = s.flags ∧
      transfers
        (match n with
          | .o0 => 0x0000#16
          | .o1 => 0x0008#16
          | .o2 => 0x0010#16
          | .o3 => 0x0018#16
          | .o4 => 0x0020#16
          | .o5 => 0x0028#16
          | .o6 => 0x0030#16
          | .o7 => 0x0038#16) s t)

/-- R194, R195, R54: RET and Rcc. The stack's layout is marked by the spec (log 17). -/
def Obligations.ReturnsPopTheAddress : Prop :=
  ∀ (cond : Cond) (s : State),
    (∃ t w, exec .ret s = .next t ∧ popsWord w s t ∧ sameRegsBut [] s t ∧ t.flags = s.flags ∧ transfers w s t) ∧
    (∃ t, exec (.returnIf cond) s = .next t ∧
      (condHolds cond s.flags = true → ∃ w, popsWord w s t ∧ sameRegsBut [] s t ∧ t.flags = s.flags ∧ transfers w s t) ∧
      (condHolds cond s.flags = false → registerForm 1#16 [] s t ∧ t.sp = s.sp ∧ t.flags = s.flags))

/-! ### Stack, I/O and control -/

/-- R210, R211, R29: PUSH. The order of the two halves and bits 5, 3 and 1 of the flag byte are marked by the spec
(log 16, 17). -/
def Obligations.PushStoresAPair : Prop :=
  ∀ (p : StackPair) (s : State), ∃ (t : State) (hi lo : Byte), exec (.push p) s = .next t ∧
    (match p with
      | .bc => hi = s.b ∧ lo = s.c
      | .de => hi = s.d ∧ lo = s.e
      | .hl => hi = s.h ∧ lo = s.l
      | .psw => hi = s.a ∧ lo.getLsbD 7 = s.flags.s ∧ lo.getLsbD 6 = s.flags.z ∧ lo.getLsbD 5 = false ∧
          lo.getLsbD 4 = s.flags.ac ∧ lo.getLsbD 3 = false ∧ lo.getLsbD 2 = s.flags.p ∧ lo.getLsbD 1 = true ∧
          lo.getLsbD 0 = s.flags.cy) ∧
    pushesWord (joinBytes hi lo) s t ∧ sameRegsBut [] s t ∧ t.flags = s.flags ∧ advances 1#16 s t

/-- R212, R213: POP. Only POP PSW writes flags, all five, whatever the byte holds. That the low byte is at SP and the high
byte at SP+1 (R54), that A is the high byte of PSW (R211, R213), and that bits 5, 3 and 1 are ignored (R29) is marked by the
spec (log 16, 17). -/
def Obligations.PopLoadsAPair : Prop :=
  ∀ (p : StackPair) (s : State), ∃ (t : State) (hi lo : Byte), exec (.pop p) s = .next t ∧
    popsWord (joinBytes hi lo) s t ∧
    (match p with
      | .bc => t.b = hi ∧ t.c = lo ∧ t.flags = s.flags
      | .de => t.d = hi ∧ t.e = lo ∧ t.flags = s.flags
      | .hl => t.h = hi ∧ t.l = lo ∧ t.flags = s.flags
      | .psw => t.a = hi ∧ t.flags.s = lo.getLsbD 7 ∧ t.flags.z = lo.getLsbD 6 ∧ t.flags.ac = lo.getLsbD 4 ∧
          t.flags.p = lo.getLsbD 2 ∧ t.flags.cy = lo.getLsbD 0) ∧
    sameRegsBut (stackPairRegs p) s t ∧ advances 1#16 s t

/-- R214, R55: XTHL, its four accesses in their order (marked by the spec, log 17). -/
def Obligations.XthlExchangesTheTop : Prop :=
  ∀ s : State, ∃ t, exec .xthl s = .next t ∧
    t.l = (s.readMem s.sp).1 ∧ t.h = ((s.readMem s.sp).2.readMem (s.sp + 1#16)).1 ∧
    sameRegsBut [.h, .l] s t ∧ t.sp = s.sp ∧ t.flags = s.flags ∧
    samePlatform (((s.readMem16 s.sp).2.writeMem (s.sp + 1#16) s.h).writeMem s.sp s.l) t ∧
    t.mem = (((s.readMem16 s.sp).2.writeMem (s.sp + 1#16) s.h).writeMem s.sp s.l).mem ∧
    (s.dma = [] → cellAfterStore s.sp s.l s t ∧ cellAfterStore (s.sp + 1#16) s.h s t ∧
      sameMemoryBut [s.sp, s.sp + 1#16] s t ∧ (s.isMemory s.sp → t.l = s.peek s.sp) ∧
      (s.isMemory (s.sp + 1#16) → t.h = s.peek (s.sp + 1#16))) ∧
    advances 1#16 s t

/-- R216, R56: IN takes the next byte scripted for its port, else a free value (log 11), and writes A only. The access has
one slot of an external bus master before it, which is used up: the model's choice within R68 (log 10). -/
def Obligations.InTakesAByteFromThePort : Prop :=
  ∀ (port : Byte) (s : State), ∃ t, exec (.inPort port) s = .next t ∧
    (∀ v rest, takeInput (.port port) s.inputs = some (v, rest) → t.a = v ∧ t.inputs = rest ∧ t.draws = s.draws) ∧
    (takeInput (.port port) s.inputs = none →
      t.a = Config.portIn port s.draws ∧ t.inputs = s.inputs ∧ t.draws = s.draws + 1) ∧
    sameRegsBut [.a] s t ∧ t.sp = s.sp ∧ t.flags = s.flags ∧ t.outputs = s.busSlot.outputs ∧ t.launch = s.launch ∧
    t.env = s.env ∧ t.dma = s.dma.tail ∧ (s.dma = [] → storesNothing s t ∧ t.outputs = s.outputs) ∧ advances 2#16 s t

/-- R217, R56: OUT records the event of its port and changes nothing else but PC. The access has one slot of an external bus
master before it, which is used up: the model's choice within R68 (log 10). -/
def Obligations.OutRecordsAnEvent : Prop :=
  ∀ (port : Byte) (s : State), ∃ t, exec (.outPort port) s = .next t ∧ t.outputs = s.busSlot.outputs ++ [.port port s.a] ∧
    sameRegsBut [] s t ∧ t.sp = s.sp ∧ t.flags = s.flags ∧ t.inputs = s.inputs ∧ t.draws = s.draws ∧
    t.launch = s.launch ∧ t.env = s.env ∧ t.dma = s.dma.tail ∧
    (s.dma = [] → storesNothing s t ∧ t.outputs = s.outputs ++ [.port port s.a]) ∧ advances 2#16 s t

/-- R218 to R221: EI, DI, HLT and NOP. EI_SHADOW is R33's, the spec's own choice (log 20); that HLT advances PC first is
marked by the spec (log 17). -/
def Obligations.ControlInstructionsSetTheirBits : Prop :=
  ∀ s : State,
    (∃ t, exec .ei s = .next t ∧ t.inte = true ∧ t.eiShadow = true ∧ t.halted = s.halted ∧ t.pc = s.pc + 1#16 ∧
      sameRegsBut [] s t ∧ t.sp = s.sp ∧ t.flags = s.flags ∧ samePlatform s t ∧ storesNothing s t) ∧
    (∃ t, exec .di s = .next t ∧ t.inte = false ∧ t.eiShadow = false ∧ t.halted = s.halted ∧ t.pc = s.pc + 1#16 ∧
      sameRegsBut [] s t ∧ t.sp = s.sp ∧ t.flags = s.flags ∧ samePlatform s t ∧ storesNothing s t) ∧
    (∃ t, exec .hlt s = .next t ∧ t.inte = s.inte ∧ t.eiShadow = false ∧ t.halted = true ∧ t.pc = s.pc + 1#16 ∧
      sameRegsBut [] s t ∧ t.sp = s.sp ∧ t.flags = s.flags ∧ samePlatform s t ∧ storesNothing s t) ∧
    (∃ t, exec .nop s = .next t ∧ registerForm 1#16 [] s t ∧ t.sp = s.sp ∧ t.flags = s.flags)

/-! ### The unlisted first bytes -/

/-- R92, R231 (a): with `UNLISTED_OPCODES` at its default each of the 12 raises IllegalOpcode with its byte and its
address. -/
def Obligations.UnlistedBytesRaiseIllegalOpcode : Prop :=
  ∀ (addr : Word) (s : State), s.launch.unlisted = .fault →
    exec .unlisted08 s = .fault (.illegalOpcode 0x08#8 s.pc) ∧ exec .unlisted10 s = .fault (.illegalOpcode 0x10#8 s.pc) ∧
    exec .unlisted18 s = .fault (.illegalOpcode 0x18#8 s.pc) ∧ exec .unlisted20 s = .fault (.illegalOpcode 0x20#8 s.pc) ∧
    exec .unlisted28 s = .fault (.illegalOpcode 0x28#8 s.pc) ∧ exec .unlisted30 s = .fault (.illegalOpcode 0x30#8 s.pc) ∧
    exec .unlisted38 s = .fault (.illegalOpcode 0x38#8 s.pc) ∧
    exec (.unlistedCB addr) s = .fault (.illegalOpcode 0xCB#8 s.pc) ∧
    exec .unlistedD9 s = .fault (.illegalOpcode 0xD9#8 s.pc) ∧
    exec (.unlistedDD addr) s = .fault (.illegalOpcode 0xDD#8 s.pc) ∧
    exec (.unlistedED addr) s = .fault (.illegalOpcode 0xED#8 s.pc) ∧
    exec (.unlistedFD addr) s = .fault (.illegalOpcode 0xFD#8 s.pc)

/-- R92: otherwise they act as NOP, JMP, RET and CALL, and complete (marked by the spec; off by default; log 7). -/
def Obligations.UnlistedBytesActAsNamed : Prop :=
  ∀ (addr : Word) (s : State), s.launch.unlisted = .act →
    (∃ t, exec .nop s = .next t ∧ exec .unlisted08 s = .next t ∧ exec .unlisted10 s = .next t ∧
      exec .unlisted18 s = .next t ∧ exec .unlisted20 s = .next t ∧ exec .unlisted28 s = .next t ∧
      exec .unlisted30 s = .next t ∧ exec .unlisted38 s = .next t) ∧
    (∃ t, exec (.jmp addr) s = .next t ∧ exec (.unlistedCB addr) s = .next t) ∧
    (∃ t, exec .ret s = .next t ∧ exec .unlistedD9 s = .next t) ∧
    (∃ t, exec (.call addr) s = .next t ∧ exec (.unlistedDD addr) s = .next t ∧ exec (.unlistedED addr) s = .next t ∧
      exec (.unlistedFD addr) s = .next t)

/-! ### Rules over all instructions -/

/-- R230, R243: no listed instruction faults or is refused, whatever the state: there is no exception, no privilege and no
alignment to violate. -/
def Obligations.EveryListedInstructionCompletes : Prop :=
  ∀ (i : Instr) (s : State), i.wellFormed = true → ∃ t, exec i s = .next t

/-- R28: the instructions outside its rows leave S, Z, AC and P alone, and CY likewise. -/
def Obligations.FlagsChangeOnlyInTheRowsOfR28 : Prop :=
  ∀ (i : Instr) (s t : State), exec i s = .next t →
    (writesSZAP (opcodeOf i) = false →
      t.flags.s = s.flags.s ∧ t.flags.z = s.flags.z ∧ t.flags.ac = s.flags.ac ∧ t.flags.p = s.flags.p) ∧
    (writesCY (opcodeOf i) = false → t.flags.cy = s.flags.cy)

/-- R31, R33, R34: EI alone sets INTE and EI_SHADOW, DI alone clears INTE, HLT alone sets HALTED, every instruction but EI
clears EI_SHADOW (R33's two-bit reading, log 20). -/
def Obligations.ControlBitsOfEveryInstruction : Prop :=
  ∀ (i : Instr) (s t : State), exec i s = .next t →
    t.inte = (if i = .ei then true else if i = .di then false else s.inte) ∧
    (t.eiShadow = true ↔ i = .ei) ∧ t.halted = (if i = .hlt then true else s.halted)

/-- R55, R50: an instruction changes no byte of memory but those at the addresses it stores to. -/
def Obligations.StoresStayInTheirFootprint : Prop :=
  ∀ (i : Instr) (s t : State), s.dma = [] → exec i s = .next t → sameMemoryBut (storeAddresses i s) s t

/-- R24: SP is written only by the instructions it names. -/
def Obligations.StackPointerWritersAreTheNamedOnes : Prop :=
  ∀ (i : Instr) (s t : State), exec i s = .next t → mayWriteSP (opcodeOf i) = false → t.sp = s.sp

/-- R23: what is no control transfer moves PC past its own bytes, modulo 65536. -/
def Obligations.ProgramCounterPassesTheInstruction : Prop :=
  ∀ (i : Instr) (s t : State), exec i s = .next t → mayTransfer (opcodeOf i) = false →
    t.pc.toNat = (s.pc.toNat + (encode i).length) % 65536

/-! ### The step -/

/-- R80, R61, R8: where nothing else is due at the boundary, the bytes at PC are memory and no bus master is scheduled, a
step is the instruction they decode to, executed at the state with the boundary's entry of `env` used up. -/
def Obligations.StepRunsTheDecodedInstruction : Prop :=
  ∀ (s : State) (i : Instr) (rest : List Byte), s.halted = false → s.quiet → s.dma = [] →
    decode [s.peek s.pc, s.peek (s.pc + 1#16), s.peek (s.pc + 2#16)] = .ok (i, rest) →
    s.isMemory s.pc → (2 ≤ (encode i).length → s.isMemory (s.pc + 1#16)) →
    (3 ≤ (encode i).length → s.isMemory (s.pc + 2#16)) →
    step s = exec i { s with env := s.env.tail }

/-- R234 to R236: an interrupt with `RST n` is accepted while INTE = 1 and EI_SHADOW = 0, halted or not: it clears the
three control bits, pushes the unincremented PC and goes to 8n; no flag and no other register is written. The sequence is
marked by the spec (log 17). That it uses up three slots of an external bus master, one before the acknowledge and one before
each write, is the model's choice (log 10, 22). -/
def Obligations.InterruptEntry : Prop :=
  ∀ (s : State) (b : Boundary) (later : List Boundary) (n : Octal) (op : Byte),
    s.env = b :: later → b.reset = false → b.int = some op → encode (.rst n) = [op] → s.inte = true →
    s.eiShadow = false →
    ∃ t, step s = .next t ∧ t.inte = false ∧ t.eiShadow = false ∧ t.halted = false ∧ t.pc.toNat = 8 * n.toNat ∧
      t.sp = s.sp - 2#16 ∧ sameRegsBut [] s t ∧ t.flags = s.flags ∧ t.env = later ∧ t.launch = s.launch ∧
      t.inputs = s.inputs ∧ t.draws = s.draws ∧ t.dma = s.dma.drop 3 ∧
      (s.dma = [] → cellAfterStore (s.sp - 1#16) (hiByte s.pc) s t ∧
        cellAfterStore (s.sp - 2#16) (loByte s.pc) s t ∧ sameMemoryBut [s.sp - 1#16, s.sp - 2#16] s t ∧
        (s.kindAt (s.sp - 1#16) ≠ .device → s.kindAt (s.sp - 2#16) ≠ .device → t.outputs = s.outputs))

/-- R33, R234: a request at a boundary where interrupts are not effective is as if it were not there. -/
def Obligations.InterruptIsHeldOff : Prop :=
  ∀ (s : State) (b : Boundary) (later : List Boundary), s.env = b :: later → s.inte = false ∨ s.eiShadow = true →
    step s = step { s with env := { b with int := none } :: later }

/-- R235, R231 (b): a byte supplied on acknowledge that is none of the eight `RST n` is refused by name. What the silicon
would do with it is outside the spec (log 15). -/
def Obligations.NonRestartByteIsRefused : Prop :=
  ∀ (s : State) (b : Boundary) (later : List Boundary) (op : Byte),
    s.env = b :: later → b.reset = false → b.int = some op → (∀ n, encode (.rst n) ≠ [op]) → s.inte = true →
    s.eiShadow = false → step s = .refused (.unsupportedInterruptInstruction op)

/-- R260, R261, R240 (c): a RESET pulse comes before everything else; it sets PC, INTE, EI_SHADOW and HALTED to 0 and
touches neither memory nor devices. Nothing is said of A to L, SP and the flags: free values. The four values are marked
by the spec (log 9, 17). -/
def Obligations.ResetPulseRestartsTheMachine : Prop :=
  ∀ (s : State) (b : Boundary) (later : List Boundary), s.env = b :: later → b.reset = true →
    ∃ t, step s = .next t ∧ t.pc = 0#16 ∧ t.inte = false ∧ t.eiShadow = false ∧ t.halted = false ∧
      storesNothing s t ∧ t.launch = s.launch ∧ t.env = later ∧ t.dma = s.dma ∧ t.inputs = s.inputs ∧
      t.outputs = s.outputs

/-- R34, R241, R231 (c): a halted machine executes nothing: where an entry of `env` still to come would end the halt the
step passes the moment, else it stops as HaltedForever. -/
def Obligations.HaltedMachineWaitsOrIsStuck : Prop :=
  ∀ s : State, s.halted = true → s.quiet →
    ((∃ b ∈ s.env.tail, b.reset = true ∨ (s.inte = true ∧ s.eiShadow = false ∧ b.int ≠ none)) →
      step s = .next { s with env := s.env.tail }) ∧
    ((∀ b ∈ s.env.tail, b.reset = false ∧ (s.inte = false ∨ s.eiShadow = true ∨ b.int = none)) →
      step s = .fault .haltedForever)

/-- R37, R261: the values reset gives (marked by the spec, log 17); memory has no written cell. -/
def Obligations.ResetGivesItsFourValues : Prop :=
  State.reset.pc = 0x0000#16 ∧ State.reset.inte = false ∧ State.reset.eiShadow = false ∧ State.reset.halted = false ∧
    State.reset.mem = []

/-- The invariant holds right after reset (R37). -/
def Obligations.ResetMeetsTheInvariant : Prop := State.reset.Inv

/-- The invariant (memory in canonical form; EI_SHADOW only with INTE, R33; EI_SHADOW 0 while halted, R241) is kept by
every step from every state that meets it. -/
def Obligations.StepKeepsTheInvariant : Prop :=
  ∀ s t : State, s.Inv → step s = .next t → t.Inv

/-- A step changes no open parameter, uses up one entry of `env`, drops only a prefix of the bus master's schedule, never
takes back an output event or a free value (R5, R61, R217). -/
def Obligations.StepOnlyMovesThePlatformForward : Prop :=
  ∀ s t : State, step s = .next t →
    t.launch = s.launch ∧ t.env = s.env.tail ∧ (∃ k, t.dma = s.dma.drop k) ∧ (∃ new, t.outputs = s.outputs ++ new) ∧
      s.draws ≤ t.draws

/-! ### Memory and the platform -/

/-- R61, R57: a read sees the most recent write; reads of other memory addresses do not. -/
def Obligations.LoadSeesTheLastStore : Prop :=
  ∀ (x y : Word) (s : State), s.dma = [] → s.kindAt x = .ram → s.isMemory y →
    ∃ t u, exec (.sta x) s = .next t ∧ exec (.lda y) t = .next u ∧ u.a = if y = x then s.a else s.peek y

/-- R57, R67: what a store does is decided by `MEMMAP`: to read-only or unpopulated addresses nothing, to a device an
event, and no memory changes. -/
def Obligations.StoreOutsideRamChangesNoMemory : Prop :=
  ∀ (x : Word) (s : State), s.dma = [] →
    (s.kindAt x = .rom ∨ s.kindAt x = .unpopulated →
      ∃ t, exec (.sta x) s = .next t ∧ storesNothing s t ∧ t.outputs = s.outputs) ∧
    (s.kindAt x = .device → ∃ t, exec (.sta x) s = .next t ∧ storesNothing s t ∧ t.outputs = s.outputs ++ [.device x s.a])

/-- R68, R57, R67: the writes scheduled for an external bus master's slot land before the access that follows, the last one
to an address counting, where `MEMMAP` calls the address ram; a write to rom is ignored, one to a device is an event. That a
slot comes before each access is the model's choice within R68, and so is the list of events (log 10, 12). -/
def Obligations.BusMasterWritesLandBeforeTheAccess : Prop :=
  ∀ (x : Word) (s : State) (writes : List (Word × Byte)) (later : List (List (Word × Byte))),
    s.dma = writes :: later → s.isMemory x →
    ∃ t, exec (.lda x) s = .next t ∧ t.dma = later ∧
      (s.kindAt x = .rom → t.a = s.peek x) ∧
      (s.kindAt x = .ram → t.a = (match writes.reverse.find? (fun w => w.1 == x) with
        | some w => w.2
        | none => s.peek x)) ∧
      t.outputs = s.outputs ++ (writes.filter (fun w => s.kindAt w.1 = .device)).map (fun w => .device w.1 w.2)

/-! ### Instructions together -/

/-- R213: PUSH and then POP of the same pair restores the pair and the flags exactly. -/
def Obligations.PushThenPopRestores : Prop :=
  ∀ (p : StackPair) (s : State), s.dma = [] → s.kindAt (s.sp - 1#16) = .ram → s.kindAt (s.sp - 2#16) = .ram →
    ∃ t u, exec (.push p) s = .next t ∧ exec (.pop p) t = .next u ∧ sameRegsBut [] s u ∧ u.flags = s.flags ∧
      u.sp = s.sp ∧ u.pc = s.pc + 2#16

/-- R214: two XTHL in a row restore HL and memory. -/
def Obligations.XthlTwiceRestores : Prop :=
  ∀ s : State, s.dma = [] → s.kindAt s.sp = .ram → s.kindAt (s.sp + 1#16) = .ram →
    ∃ t u, exec .xthl s = .next t ∧ exec .xthl t = .next u ∧ sameRegsBut [] s u ∧ sameMemoryBut [] s u ∧
      u.sp = s.sp ∧ u.flags = s.flags

/-- R192, R194: a call and then a return resumes after the call, with SP as it was. -/
def Obligations.CallThenReturnResumes : Prop :=
  ∀ (addr : Word) (s : State), s.dma = [] → s.kindAt (s.sp - 1#16) = .ram → s.kindAt (s.sp - 2#16) = .ram →
    ∃ t u, exec (.call addr) s = .next t ∧ t.pc = addr ∧ exec .ret t = .next u ∧ u.pc = s.pc + 3#16 ∧ u.sp = s.sp ∧
      sameRegsBut [] s u ∧ u.flags = s.flags

/-- R236, R238, R241: a handler's RET resumes exactly where the interrupt came, halted or not, and restores PC and SP
only: INTE stays 0. -/
def Obligations.ReturnFromTheHandlerResumes : Prop :=
  ∀ (s : State) (b : Boundary) (later : List Boundary) (n : Octal) (op : Byte),
    s.env = b :: later → b.reset = false → b.int = some op → encode (.rst n) = [op] → s.inte = true →
    s.eiShadow = false → s.dma = [] → s.kindAt (s.sp - 1#16) = .ram → s.kindAt (s.sp - 2#16) = .ram →
    ∃ t u, step s = .next t ∧ exec .ret t = .next u ∧ u.pc = s.pc ∧ u.sp = s.sp ∧ sameRegsBut [] s u ∧
      u.flags = s.flags ∧ u.inte = false ∧ u.halted = false

/-- R58: the ten status words. -/
def Obligations.StatusWordsOfTheTenCycles : Prop :=
  [BusCycle.instructionFetch, .memoryRead, .memoryWrite, .stackRead, .stackWrite, .inputRead, .outputWrite, .intAck,
      .haltAck, .intAckWhileHalt].map statusWord =
    [0xA2#8, 0x82#8, 0x00#8, 0x86#8, 0x04#8, 0x42#8, 0x10#8, 0x23#8, 0x8A#8, 0x2B#8] ∧
  ∀ k : BusCycle, (statusBits k).inta = (statusWord k).getLsbD 0 ∧ (statusBits k).wo = (statusWord k).getLsbD 1 ∧
    (statusBits k).stack = (statusWord k).getLsbD 2 ∧ (statusBits k).hlta = (statusWord k).getLsbD 3 ∧
    (statusBits k).out = (statusWord k).getLsbD 4 ∧ (statusBits k).m1 = (statusWord k).getLsbD 5 ∧
    (statusBits k).inp = (statusWord k).getLsbD 6 ∧ (statusBits k).memr = (statusWord k).getLsbD 7
end

