-- ==== Sys2Proof/Laws/Forms.lean ====
section
/-! SUPPORT. For each form of 30_encoding.md R87: `exec` of the form, with the field of its opcode byte as an argument, is
the shared meaning of the form. -/

namespace Sys2Proof.Machine

theorem exec_mov (r1 r2 : Reg8) (s : State) : exec (.mov r1 r2) s = moveReg r1 r2 s := by cases r1 <;> cases r2 <;> rfl
theorem exec_movToM (r : Reg8) (s : State) : exec (.movToM r) s = moveToMem r s := by cases r <;> rfl
theorem exec_movFromM (r : Reg8) (s : State) : exec (.movFromM r) s = moveFromMem r s := by cases r <;> rfl
theorem exec_mvi (r : Reg8) (data : Byte) (s : State) : exec (.mvi r data) s = moveImm r data s := by cases r <;> rfl
theorem exec_lxi (p : RegPair) (v : Word) (s : State) : exec (.lxi p v) s = loadPairImm p v s := by cases p <;> rfl
theorem exec_add (o : Operand8) (s : State) : exec (.add o) s = addOp o s := by rcases o with r | _ | d <;> first | rfl | (cases r <;> rfl)
theorem exec_adc (o : Operand8) (s : State) : exec (.adc o) s = adcOp o s := by rcases o with r | _ | d <;> first | rfl | (cases r <;> rfl)
theorem exec_sub (o : Operand8) (s : State) : exec (.sub o) s = subOp o s := by rcases o with r | _ | d <;> first | rfl | (cases r <;> rfl)
theorem exec_sbb (o : Operand8) (s : State) : exec (.sbb o) s = sbbOp o s := by rcases o with r | _ | d <;> first | rfl | (cases r <;> rfl)
theorem exec_xra (o : Operand8) (s : State) : exec (.xra o) s = xraOp o s := by rcases o with r | _ | d <;> first | rfl | (cases r <;> rfl)
theorem exec_ora (o : Operand8) (s : State) : exec (.ora o) s = oraOp o s := by rcases o with r | _ | d <;> first | rfl | (cases r <;> rfl)
theorem exec_cmp (o : Operand8) (s : State) : exec (.cmp o) s = cmpOp o s := by rcases o with r | _ | d <;> first | rfl | (cases r <;> rfl)
theorem exec_ana_reg (r : Reg8) (s : State) : exec (.ana (.reg r)) s = anaOp (.reg r) s := by cases r <;> rfl
theorem exec_ana_mem (s : State) : exec (.ana .mem) s = anaOp .mem s := rfl
theorem exec_ana_imm (d : Byte) (s : State) : exec (.ana (.imm d)) s = aniOp d s := rfl
theorem exec_inr (r : Reg8) (s : State) : exec (.inr r) s = incReg r s := by cases r <;> rfl
theorem exec_dcr (r : Reg8) (s : State) : exec (.dcr r) s = decReg r s := by cases r <;> rfl
theorem exec_inx (p : RegPair) (s : State) : exec (.inx p) s = incPair p s := by cases p <;> rfl
theorem exec_dcx (p : RegPair) (s : State) : exec (.dcx p) s = decPair p s := by cases p <;> rfl
theorem exec_dad (p : RegPair) (s : State) : exec (.dad p) s = doubleAdd p s := by cases p <;> rfl
theorem exec_jumpIf (q : Cond) (x : Word) (s : State) : exec (.jumpIf q x) s = jumpOn q x s := by cases q <;> rfl
theorem exec_callIf (q : Cond) (x : Word) (s : State) : exec (.callIf q x) s = callOn q x s := by cases q <;> rfl
theorem exec_returnIf (q : Cond) (s : State) : exec (.returnIf q) s = returnOn q s := by cases q <;> rfl
theorem exec_rst (n : Octal) (s : State) : exec (.rst n) s = restart n s := by cases n <;> rfl
theorem exec_push (p : StackPair) (s : State) : exec (.push p) s = pushPair p s := by cases p <;> rfl
theorem exec_pop (p : StackPair) (s : State) : exec (.pop p) s = popPair p s := by cases p <;> rfl

end Sys2Proof.Machine
end

