-- ==== Sys2Proof/Laws/Memory.lean ====
section
/-! SUPPORT. Laws of memory as data: reading back a write, and the canonical form, which every memory operation keeps. -/

namespace Sys2Proof.Machine

/-- Reading the address just written gives the byte written. -/
@[simp] theorem Memory.read_write_same (m : Memory) (x : Nat) (v : Byte) : Memory.read (Memory.write m x v) x = some v := by
  induction m with
  | nil => simp [Memory.write, Memory.read]
  | cons p rest ih =>
    obtain ⟨k, w⟩ := p
    simp only [Memory.write]
    split
    · simp [Memory.read]
    · split
      · simp [Memory.read]
      · simp [Memory.read, ih, Ne.symm ‹¬x = k›]

/-- A write leaves every other address as it was. -/
theorem Memory.read_write_other (m : Memory) {x y : Nat} (v : Byte) (h : y ≠ x) :
    Memory.read (Memory.write m x v) y = Memory.read m y := by
  induction m with
  | nil => simp [Memory.write, Memory.read, h.symm]
  | cons p rest ih =>
    obtain ⟨k, w⟩ := p
    simp only [Memory.write]
    split
    · simp [Memory.read, h.symm]
    · split
      · subst x; simp [Memory.read, h.symm]
      · simp [Memory.read, ih]

theorem Memory.read_write (m : Memory) (x y : Nat) (v : Byte) :
    Memory.read (Memory.write m x v) y = if y = x then some v else Memory.read m y := by
  split
  · next h => rw [h, Memory.read_write_same]
  · next h => exact Memory.read_write_other m v h

/-- A write at or above `lo` keeps the canonical form from `lo` on. -/
theorem Memory.wfFrom_write (m : Memory) {lo x : Nat} (v : Byte) (h : Memory.wfFrom lo m = true) (hl : lo ≤ x)
    (hx : x < 65536) : Memory.wfFrom lo (Memory.write m x v) = true := by
  induction m generalizing lo with
  | nil => simp [Memory.write, Memory.wfFrom, hl, hx]
  | cons p rest ih =>
    obtain ⟨k, w⟩ := p
    simp only [Memory.wfFrom, Bool.and_eq_true, decide_eq_true_eq] at h
    simp only [Memory.write]
    split
    · simp [Memory.wfFrom, h, hl, hx]; omega
    · split
      · subst x; simp [Memory.wfFrom, h]
      · simp only [Memory.wfFrom, h, decide_true, Bool.true_and]
        exact ih h.2 (by omega)

/-- A write of a 16-bit address keeps the canonical form. -/
theorem Memory.wf_write (m : Memory) (x : Word) (v : Byte) (h : Memory.wf m = true) :
    Memory.wf (Memory.write m x.toNat v) = true := Memory.wfFrom_write m v h (Nat.zero_le _) x.isLt

/-- A memory in canonical form from `lo` on lists nothing below `lo`. -/
theorem Memory.read_below (m : Memory) {lo x : Nat} (h : Memory.wfFrom lo m = true) (hx : x < lo) : Memory.read m x = none := by
  induction m generalizing lo with
  | nil => rfl
  | cons p rest ih =>
    obtain ⟨k, w⟩ := p
    simp only [Memory.wfFrom, Bool.and_eq_true, decide_eq_true_eq] at h
    rw [Memory.read, if_neg (by omega)]
    exact ih h.2 (by omega)

/-- The form is canonical: two memories in it that read alike everywhere are the same data. -/
theorem Memory.eq_of_read {lo : Nat} {m n : Memory} (hm : Memory.wfFrom lo m = true) (hn : Memory.wfFrom lo n = true)
    (h : ∀ x, Memory.read m x = Memory.read n x) : m = n := by
  induction m generalizing lo n with
  | nil =>
    cases n with
    | nil => rfl
    | cons q rest => have := h q.1; simp [Memory.read] at this
  | cons p rest ih =>
    obtain ⟨k, w⟩ := p
    cases n with
    | nil => have := h k; simp [Memory.read] at this
    | cons q rest' =>
      obtain ⟨k', w'⟩ := q
      simp only [Memory.wfFrom, Bool.and_eq_true, decide_eq_true_eq] at hm hn
      have below := fun x => Memory.read_below (x := x) rest hm.2
      have below' := fun x => Memory.read_below (x := x) rest' hn.2
      have hk : k = k' := by
        rcases Nat.lt_trichotomy k k' with lt | eq | gt
        · have := h k
          simp only [Memory.read, if_pos, if_neg (by omega : ¬k' = k), below' k (by omega)] at this
          cases this
        · exact eq
        · have := h k'
          simp only [Memory.read, if_pos, if_neg (by omega : ¬k = k'), below k' (by omega)] at this
          cases this
      subst hk
      have hw : w = w' := by simpa [Memory.read] using h k
      subst hw
      congr 1
      refine ih hm.2 hn.2 fun x => ?_
      by_cases hx : k = x
      · subst hx; rw [below _ (by omega), below' _ (by omega)]
      · simpa [Memory.read, hx] using h x

end Sys2Proof.Machine
end

