-- ==== Sys2Proof/Laws/State.lean ====
section
/-! SUPPORT. One lemma per field per update of the state that touches no bus, true by `rfl` (after a split on the register
where there is one), so that a later proof never unfolds an update. -/

namespace Sys2Proof.Machine
@[simp] theorem State.advance_a (n : Word) (s : State) : (s.advance n).a = s.a := rfl
@[simp] theorem State.advance_b (n : Word) (s : State) : (s.advance n).b = s.b := rfl
@[simp] theorem State.advance_c (n : Word) (s : State) : (s.advance n).c = s.c := rfl
@[simp] theorem State.advance_d (n : Word) (s : State) : (s.advance n).d = s.d := rfl
@[simp] theorem State.advance_e (n : Word) (s : State) : (s.advance n).e = s.e := rfl
@[simp] theorem State.advance_h (n : Word) (s : State) : (s.advance n).h = s.h := rfl
@[simp] theorem State.advance_l (n : Word) (s : State) : (s.advance n).l = s.l := rfl
@[simp] theorem State.advance_sp (n : Word) (s : State) : (s.advance n).sp = s.sp := rfl
@[simp] theorem State.advance_pc (n : Word) (s : State) : (s.advance n).pc = s.pc + n := rfl
@[simp] theorem State.advance_flags (n : Word) (s : State) : (s.advance n).flags = s.flags := rfl
@[simp] theorem State.advance_inte (n : Word) (s : State) : (s.advance n).inte = s.inte := rfl
@[simp] theorem State.advance_eiShadow (n : Word) (s : State) : (s.advance n).eiShadow = false := rfl
@[simp] theorem State.advance_halted (n : Word) (s : State) : (s.advance n).halted = s.halted := rfl
@[simp] theorem State.advance_mem (n : Word) (s : State) : (s.advance n).mem = s.mem := rfl
@[simp] theorem State.advance_launch (n : Word) (s : State) : (s.advance n).launch = s.launch := rfl
@[simp] theorem State.advance_env (n : Word) (s : State) : (s.advance n).env = s.env := rfl
@[simp] theorem State.advance_dma (n : Word) (s : State) : (s.advance n).dma = s.dma := rfl
@[simp] theorem State.advance_inputs (n : Word) (s : State) : (s.advance n).inputs = s.inputs := rfl
@[simp] theorem State.advance_outputs (n : Word) (s : State) : (s.advance n).outputs = s.outputs := rfl
@[simp] theorem State.advance_draws (n : Word) (s : State) : (s.advance n).draws = s.draws := rfl

@[simp] theorem State.jumpTo_a (x : Word) (s : State) : (s.jumpTo x).a = s.a := rfl
@[simp] theorem State.jumpTo_b (x : Word) (s : State) : (s.jumpTo x).b = s.b := rfl
@[simp] theorem State.jumpTo_c (x : Word) (s : State) : (s.jumpTo x).c = s.c := rfl
@[simp] theorem State.jumpTo_d (x : Word) (s : State) : (s.jumpTo x).d = s.d := rfl
@[simp] theorem State.jumpTo_e (x : Word) (s : State) : (s.jumpTo x).e = s.e := rfl
@[simp] theorem State.jumpTo_h (x : Word) (s : State) : (s.jumpTo x).h = s.h := rfl
@[simp] theorem State.jumpTo_l (x : Word) (s : State) : (s.jumpTo x).l = s.l := rfl
@[simp] theorem State.jumpTo_sp (x : Word) (s : State) : (s.jumpTo x).sp = s.sp := rfl
@[simp] theorem State.jumpTo_pc (x : Word) (s : State) : (s.jumpTo x).pc = x := rfl
@[simp] theorem State.jumpTo_flags (x : Word) (s : State) : (s.jumpTo x).flags = s.flags := rfl
@[simp] theorem State.jumpTo_inte (x : Word) (s : State) : (s.jumpTo x).inte = s.inte := rfl
@[simp] theorem State.jumpTo_eiShadow (x : Word) (s : State) : (s.jumpTo x).eiShadow = false := rfl
@[simp] theorem State.jumpTo_halted (x : Word) (s : State) : (s.jumpTo x).halted = s.halted := rfl
@[simp] theorem State.jumpTo_mem (x : Word) (s : State) : (s.jumpTo x).mem = s.mem := rfl
@[simp] theorem State.jumpTo_launch (x : Word) (s : State) : (s.jumpTo x).launch = s.launch := rfl
@[simp] theorem State.jumpTo_env (x : Word) (s : State) : (s.jumpTo x).env = s.env := rfl
@[simp] theorem State.jumpTo_dma (x : Word) (s : State) : (s.jumpTo x).dma = s.dma := rfl
@[simp] theorem State.jumpTo_inputs (x : Word) (s : State) : (s.jumpTo x).inputs = s.inputs := rfl
@[simp] theorem State.jumpTo_outputs (x : Word) (s : State) : (s.jumpTo x).outputs = s.outputs := rfl
@[simp] theorem State.jumpTo_draws (x : Word) (s : State) : (s.jumpTo x).draws = s.draws := rfl

@[simp] theorem State.setReg_sp (r : Reg8) (v : Byte) (s : State) : (s.setReg r v).sp = s.sp := by cases r <;> rfl
@[simp] theorem State.setReg_pc (r : Reg8) (v : Byte) (s : State) : (s.setReg r v).pc = s.pc := by cases r <;> rfl
@[simp] theorem State.setReg_flags (r : Reg8) (v : Byte) (s : State) : (s.setReg r v).flags = s.flags := by cases r <;> rfl
@[simp] theorem State.setReg_inte (r : Reg8) (v : Byte) (s : State) : (s.setReg r v).inte = s.inte := by cases r <;> rfl
@[simp] theorem State.setReg_eiShadow (r : Reg8) (v : Byte) (s : State) : (s.setReg r v).eiShadow = s.eiShadow := by cases r <;> rfl
@[simp] theorem State.setReg_halted (r : Reg8) (v : Byte) (s : State) : (s.setReg r v).halted = s.halted := by cases r <;> rfl
@[simp] theorem State.setReg_mem (r : Reg8) (v : Byte) (s : State) : (s.setReg r v).mem = s.mem := by cases r <;> rfl
@[simp] theorem State.setReg_launch (r : Reg8) (v : Byte) (s : State) : (s.setReg r v).launch = s.launch := by cases r <;> rfl
@[simp] theorem State.setReg_env (r : Reg8) (v : Byte) (s : State) : (s.setReg r v).env = s.env := by cases r <;> rfl
@[simp] theorem State.setReg_dma (r : Reg8) (v : Byte) (s : State) : (s.setReg r v).dma = s.dma := by cases r <;> rfl
@[simp] theorem State.setReg_inputs (r : Reg8) (v : Byte) (s : State) : (s.setReg r v).inputs = s.inputs := by cases r <;> rfl
@[simp] theorem State.setReg_outputs (r : Reg8) (v : Byte) (s : State) : (s.setReg r v).outputs = s.outputs := by cases r <;> rfl
@[simp] theorem State.setReg_draws (r : Reg8) (v : Byte) (s : State) : (s.setReg r v).draws = s.draws := by cases r <;> rfl

@[simp] theorem State.setPair_a (p : RegPair) (v : Word) (s : State) : (s.setPair p v).a = s.a := by cases p <;> rfl
@[simp] theorem State.setPair_pc (p : RegPair) (v : Word) (s : State) : (s.setPair p v).pc = s.pc := by cases p <;> rfl
@[simp] theorem State.setPair_flags (p : RegPair) (v : Word) (s : State) : (s.setPair p v).flags = s.flags := by cases p <;> rfl
@[simp] theorem State.setPair_inte (p : RegPair) (v : Word) (s : State) : (s.setPair p v).inte = s.inte := by cases p <;> rfl
@[simp] theorem State.setPair_eiShadow (p : RegPair) (v : Word) (s : State) : (s.setPair p v).eiShadow = s.eiShadow := by cases p <;> rfl
@[simp] theorem State.setPair_halted (p : RegPair) (v : Word) (s : State) : (s.setPair p v).halted = s.halted := by cases p <;> rfl
@[simp] theorem State.setPair_mem (p : RegPair) (v : Word) (s : State) : (s.setPair p v).mem = s.mem := by cases p <;> rfl
@[simp] theorem State.setPair_launch (p : RegPair) (v : Word) (s : State) : (s.setPair p v).launch = s.launch := by cases p <;> rfl
@[simp] theorem State.setPair_env (p : RegPair) (v : Word) (s : State) : (s.setPair p v).env = s.env := by cases p <;> rfl
@[simp] theorem State.setPair_dma (p : RegPair) (v : Word) (s : State) : (s.setPair p v).dma = s.dma := by cases p <;> rfl
@[simp] theorem State.setPair_inputs (p : RegPair) (v : Word) (s : State) : (s.setPair p v).inputs = s.inputs := by cases p <;> rfl
@[simp] theorem State.setPair_outputs (p : RegPair) (v : Word) (s : State) : (s.setPair p v).outputs = s.outputs := by cases p <;> rfl
@[simp] theorem State.setPair_draws (p : RegPair) (v : Word) (s : State) : (s.setPair p v).draws = s.draws := by cases p <;> rfl

@[simp] theorem State.setStackPair_sp (p : StackPair) (v : Word) (s : State) : (s.setStackPair p v).sp = s.sp := by cases p <;> rfl
@[simp] theorem State.setStackPair_pc (p : StackPair) (v : Word) (s : State) : (s.setStackPair p v).pc = s.pc := by cases p <;> rfl
@[simp] theorem State.setStackPair_inte (p : StackPair) (v : Word) (s : State) : (s.setStackPair p v).inte = s.inte := by cases p <;> rfl
@[simp] theorem State.setStackPair_eiShadow (p : StackPair) (v : Word) (s : State) : (s.setStackPair p v).eiShadow = s.eiShadow := by cases p <;> rfl
@[simp] theorem State.setStackPair_halted (p : StackPair) (v : Word) (s : State) : (s.setStackPair p v).halted = s.halted := by cases p <;> rfl
@[simp] theorem State.setStackPair_mem (p : StackPair) (v : Word) (s : State) : (s.setStackPair p v).mem = s.mem := by cases p <;> rfl
@[simp] theorem State.setStackPair_launch (p : StackPair) (v : Word) (s : State) : (s.setStackPair p v).launch = s.launch := by cases p <;> rfl
@[simp] theorem State.setStackPair_env (p : StackPair) (v : Word) (s : State) : (s.setStackPair p v).env = s.env := by cases p <;> rfl
@[simp] theorem State.setStackPair_dma (p : StackPair) (v : Word) (s : State) : (s.setStackPair p v).dma = s.dma := by cases p <;> rfl
@[simp] theorem State.setStackPair_inputs (p : StackPair) (v : Word) (s : State) : (s.setStackPair p v).inputs = s.inputs := by cases p <;> rfl
@[simp] theorem State.setStackPair_outputs (p : StackPair) (v : Word) (s : State) : (s.setStackPair p v).outputs = s.outputs := by cases p <;> rfl
@[simp] theorem State.setStackPair_draws (p : StackPair) (v : Word) (s : State) : (s.setStackPair p v).draws = s.draws := by cases p <;> rfl

@[simp] theorem State.setAcc_a (r : Byte × Flags) (s : State) : (s.setAcc r).a = r.1 := rfl
@[simp] theorem State.setAcc_b (r : Byte × Flags) (s : State) : (s.setAcc r).b = s.b := rfl
@[simp] theorem State.setAcc_c (r : Byte × Flags) (s : State) : (s.setAcc r).c = s.c := rfl
@[simp] theorem State.setAcc_d (r : Byte × Flags) (s : State) : (s.setAcc r).d = s.d := rfl
@[simp] theorem State.setAcc_e (r : Byte × Flags) (s : State) : (s.setAcc r).e = s.e := rfl
@[simp] theorem State.setAcc_h (r : Byte × Flags) (s : State) : (s.setAcc r).h = s.h := rfl
@[simp] theorem State.setAcc_l (r : Byte × Flags) (s : State) : (s.setAcc r).l = s.l := rfl
@[simp] theorem State.setAcc_sp (r : Byte × Flags) (s : State) : (s.setAcc r).sp = s.sp := rfl
@[simp] theorem State.setAcc_pc (r : Byte × Flags) (s : State) : (s.setAcc r).pc = s.pc := rfl
@[simp] theorem State.setAcc_flags (r : Byte × Flags) (s : State) : (s.setAcc r).flags = r.2 := rfl
@[simp] theorem State.setAcc_inte (r : Byte × Flags) (s : State) : (s.setAcc r).inte = s.inte := rfl
@[simp] theorem State.setAcc_eiShadow (r : Byte × Flags) (s : State) : (s.setAcc r).eiShadow = s.eiShadow := rfl
@[simp] theorem State.setAcc_halted (r : Byte × Flags) (s : State) : (s.setAcc r).halted = s.halted := rfl
@[simp] theorem State.setAcc_mem (r : Byte × Flags) (s : State) : (s.setAcc r).mem = s.mem := rfl
@[simp] theorem State.setAcc_launch (r : Byte × Flags) (s : State) : (s.setAcc r).launch = s.launch := rfl
@[simp] theorem State.setAcc_env (r : Byte × Flags) (s : State) : (s.setAcc r).env = s.env := rfl
@[simp] theorem State.setAcc_dma (r : Byte × Flags) (s : State) : (s.setAcc r).dma = s.dma := rfl
@[simp] theorem State.setAcc_inputs (r : Byte × Flags) (s : State) : (s.setAcc r).inputs = s.inputs := rfl
@[simp] theorem State.setAcc_outputs (r : Byte × Flags) (s : State) : (s.setAcc r).outputs = s.outputs := rfl
@[simp] theorem State.setAcc_draws (r : Byte × Flags) (s : State) : (s.setAcc r).draws = s.draws := rfl

@[simp] theorem State.rotated_a (r : Byte) (cy : Bool) (s : State) : (s.rotated r cy).a = r := rfl
@[simp] theorem State.rotated_b (r : Byte) (cy : Bool) (s : State) : (s.rotated r cy).b = s.b := rfl
@[simp] theorem State.rotated_c (r : Byte) (cy : Bool) (s : State) : (s.rotated r cy).c = s.c := rfl
@[simp] theorem State.rotated_d (r : Byte) (cy : Bool) (s : State) : (s.rotated r cy).d = s.d := rfl
@[simp] theorem State.rotated_e (r : Byte) (cy : Bool) (s : State) : (s.rotated r cy).e = s.e := rfl
@[simp] theorem State.rotated_h (r : Byte) (cy : Bool) (s : State) : (s.rotated r cy).h = s.h := rfl
@[simp] theorem State.rotated_l (r : Byte) (cy : Bool) (s : State) : (s.rotated r cy).l = s.l := rfl
@[simp] theorem State.rotated_sp (r : Byte) (cy : Bool) (s : State) : (s.rotated r cy).sp = s.sp := rfl
@[simp] theorem State.rotated_pc (r : Byte) (cy : Bool) (s : State) : (s.rotated r cy).pc = s.pc := rfl
@[simp] theorem State.rotated_flags (r : Byte) (cy : Bool) (s : State) : (s.rotated r cy).flags = { s.flags with cy := cy } := rfl
@[simp] theorem State.rotated_inte (r : Byte) (cy : Bool) (s : State) : (s.rotated r cy).inte = s.inte := rfl
@[simp] theorem State.rotated_eiShadow (r : Byte) (cy : Bool) (s : State) : (s.rotated r cy).eiShadow = s.eiShadow := rfl
@[simp] theorem State.rotated_halted (r : Byte) (cy : Bool) (s : State) : (s.rotated r cy).halted = s.halted := rfl
@[simp] theorem State.rotated_mem (r : Byte) (cy : Bool) (s : State) : (s.rotated r cy).mem = s.mem := rfl
@[simp] theorem State.rotated_launch (r : Byte) (cy : Bool) (s : State) : (s.rotated r cy).launch = s.launch := rfl
@[simp] theorem State.rotated_env (r : Byte) (cy : Bool) (s : State) : (s.rotated r cy).env = s.env := rfl
@[simp] theorem State.rotated_dma (r : Byte) (cy : Bool) (s : State) : (s.rotated r cy).dma = s.dma := rfl
@[simp] theorem State.rotated_inputs (r : Byte) (cy : Bool) (s : State) : (s.rotated r cy).inputs = s.inputs := rfl
@[simp] theorem State.rotated_outputs (r : Byte) (cy : Bool) (s : State) : (s.rotated r cy).outputs = s.outputs := rfl
@[simp] theorem State.rotated_draws (r : Byte) (cy : Bool) (s : State) : (s.rotated r cy).draws = s.draws := rfl

@[simp] theorem State.advance_reg (r : Reg8) (n : Word) (s : State) : (s.advance n).reg r = s.reg r := by cases r <;> rfl
@[simp] theorem State.advance_hl (n : Word) (s : State) : (s.advance n).hl = s.hl := rfl
@[simp] theorem State.jumpTo_reg (r : Reg8) (x : Word) (s : State) : (s.jumpTo x).reg r = s.reg r := by cases r <;> rfl
@[simp] theorem State.jumpTo_hl (x : Word) (s : State) : (s.jumpTo x).hl = s.hl := rfl
@[simp] theorem State.advance_peek (n : Word) (y : Word) (s : State) : (s.advance n).peek y = s.peek y := rfl
@[simp] theorem State.advance_kindAt (n : Word) (y : Word) (s : State) : (s.advance n).kindAt y = s.kindAt y := rfl
@[simp] theorem State.jumpTo_peek (x : Word) (y : Word) (s : State) : (s.jumpTo x).peek y = s.peek y := rfl
@[simp] theorem State.jumpTo_kindAt (x : Word) (y : Word) (s : State) : (s.jumpTo x).kindAt y = s.kindAt y := rfl
@[simp] theorem State.setAcc_peek (r : Byte × Flags) (y : Word) (s : State) : (s.setAcc r).peek y = s.peek y := rfl
@[simp] theorem State.setAcc_kindAt (r : Byte × Flags) (y : Word) (s : State) : (s.setAcc r).kindAt y = s.kindAt y := rfl
@[simp] theorem State.rotated_peek (r : Byte) (cy : Bool) (y : Word) (s : State) : (s.rotated r cy).peek y = s.peek y := rfl
@[simp] theorem State.rotated_kindAt (r : Byte) (cy : Bool) (y : Word) (s : State) : (s.rotated r cy).kindAt y = s.kindAt y := rfl
@[simp] theorem State.setReg_peek (r : Reg8) (v : Byte) (y : Word) (s : State) : (s.setReg r v).peek y = s.peek y := by cases r <;> rfl
@[simp] theorem State.setReg_kindAt (r : Reg8) (v : Byte) (y : Word) (s : State) : (s.setReg r v).kindAt y = s.kindAt y := by cases r <;> rfl
@[simp] theorem State.setPair_peek (p : RegPair) (v : Word) (y : Word) (s : State) : (s.setPair p v).peek y = s.peek y := by cases p <;> rfl
@[simp] theorem State.setPair_kindAt (p : RegPair) (v : Word) (y : Word) (s : State) : (s.setPair p v).kindAt y = s.kindAt y := by cases p <;> rfl
@[simp] theorem State.setStackPair_peek (p : StackPair) (v : Word) (y : Word) (s : State) : (s.setStackPair p v).peek y = s.peek y := by cases p <;> rfl
@[simp] theorem State.setStackPair_kindAt (p : StackPair) (v : Word) (y : Word) (s : State) : (s.setStackPair p v).kindAt y = s.kindAt y := by cases p <;> rfl

/-- A register write changes that register and no other. -/
@[simp] theorem State.setReg_reg (r q : Reg8) (v : Byte) (s : State) : (s.setReg r v).reg q = if q = r then v else s.reg q := by
  cases r <;> cases q <;> rfl

@[simp] theorem State.setAcc_reg (q : Reg8) (r : Byte × Flags) (s : State) :
    (s.setAcc r).reg q = if q = .a then r.1 else s.reg q := by cases q <;> rfl

@[simp] theorem State.rotated_reg (q : Reg8) (r : Byte) (cy : Bool) (s : State) :
    (s.rotated r cy).reg q = if q = .a then r else s.reg q := by cases q <;> rfl

/-- A pair reads back as it was written (R22). -/
@[simp] theorem State.setPair_pair (p : RegPair) (v : Word) (s : State) : (s.setPair p v).pair p = v := by
  cases p <;> simp [State.setPair, State.pair]

/-- Of the pairs, only SP is written through to SP. -/
@[simp] theorem State.setPair_sp_eq (p : RegPair) (v : Word) (s : State) : (s.setPair p v).sp = if p = .sp then v else s.sp := by
  cases p <;> rfl

/-- Of the pairs of POP, only PSW writes flags. -/
@[simp] theorem State.setStackPair_flags_eq (p : StackPair) (v : Word) (s : State) :
    (s.setStackPair p v).flags = if p = .psw then flagsOfByte (loByte v) else s.flags := by cases p <;> rfl

/-- Writing a pair leaves every other pair as it was. -/
theorem State.setPair_pair_other {p q : RegPair} (v : Word) (s : State) (h : q ≠ p) : (s.setPair p v).pair q = s.pair q := by
  cases p <;> cases q <;> first | rfl | exact absurd rfl h

/-- Writing a register pair leaves every register outside it as it was. -/
theorem State.setPair_reg_other {p : RegPair} {q : Reg8} (v : Word) (s : State)
    (h : match p with
      | .bc => q ≠ .b ∧ q ≠ .c
      | .de => q ≠ .d ∧ q ≠ .e
      | .hl => q ≠ .h ∧ q ≠ .l
      | .sp => True) : (s.setPair p v).reg q = s.reg q := by
  cases p <;> cases q <;> first | rfl | simp at h

@[simp] theorem State.setPair_hl_hl (v : Word) (s : State) : (s.setPair .hl v).hl = v := joinBytes_halves v

end Sys2Proof.Machine
end

