-- ==== Sys2Proof/Laws/Ops.lean ====
section
/-! SUPPORT. The operations that use the bus. First what each leaves alone, one lemma per field; then, for each, what it
can do, said once: its effect on memory, that it keeps the canonical form, and its plain case, where no external bus
master is scheduled. -/

namespace Sys2Proof.Machine
@[simp] theorem State.store_a (x : Word) (v : Byte) (s : State) : (s.store x v).a = s.a := by unfold State.store; split <;> rfl
@[simp] theorem State.store_b (x : Word) (v : Byte) (s : State) : (s.store x v).b = s.b := by unfold State.store; split <;> rfl
@[simp] theorem State.store_c (x : Word) (v : Byte) (s : State) : (s.store x v).c = s.c := by unfold State.store; split <;> rfl
@[simp] theorem State.store_d (x : Word) (v : Byte) (s : State) : (s.store x v).d = s.d := by unfold State.store; split <;> rfl
@[simp] theorem State.store_e (x : Word) (v : Byte) (s : State) : (s.store x v).e = s.e := by unfold State.store; split <;> rfl
@[simp] theorem State.store_h (x : Word) (v : Byte) (s : State) : (s.store x v).h = s.h := by unfold State.store; split <;> rfl
@[simp] theorem State.store_l (x : Word) (v : Byte) (s : State) : (s.store x v).l = s.l := by unfold State.store; split <;> rfl
@[simp] theorem State.store_sp (x : Word) (v : Byte) (s : State) : (s.store x v).sp = s.sp := by unfold State.store; split <;> rfl
@[simp] theorem State.store_pc (x : Word) (v : Byte) (s : State) : (s.store x v).pc = s.pc := by unfold State.store; split <;> rfl
@[simp] theorem State.store_flags (x : Word) (v : Byte) (s : State) : (s.store x v).flags = s.flags := by unfold State.store; split <;> rfl
@[simp] theorem State.store_inte (x : Word) (v : Byte) (s : State) : (s.store x v).inte = s.inte := by unfold State.store; split <;> rfl
@[simp] theorem State.store_eiShadow (x : Word) (v : Byte) (s : State) : (s.store x v).eiShadow = s.eiShadow := by unfold State.store; split <;> rfl
@[simp] theorem State.store_halted (x : Word) (v : Byte) (s : State) : (s.store x v).halted = s.halted := by unfold State.store; split <;> rfl
@[simp] theorem State.store_launch (x : Word) (v : Byte) (s : State) : (s.store x v).launch = s.launch := by unfold State.store; split <;> rfl
@[simp] theorem State.store_env (x : Word) (v : Byte) (s : State) : (s.store x v).env = s.env := by unfold State.store; split <;> rfl
@[simp] theorem State.store_dma (x : Word) (v : Byte) (s : State) : (s.store x v).dma = s.dma := by unfold State.store; split <;> rfl
@[simp] theorem State.store_inputs (x : Word) (v : Byte) (s : State) : (s.store x v).inputs = s.inputs := by unfold State.store; split <;> rfl
@[simp] theorem State.store_draws (x : Word) (v : Byte) (s : State) : (s.store x v).draws = s.draws := by unfold State.store; split <;> rfl
@[simp] theorem State.store_reg (x : Word) (v : Byte) (r : Reg8) (s : State) : (s.store x v).reg r = s.reg r := by cases r <;> simp [State.reg]
@[simp] theorem State.store_hl (x : Word) (v : Byte) (s : State) : (s.store x v).hl = s.hl := by simp [State.hl]
@[simp] theorem State.store_kindAt (x : Word) (v : Byte) (y : Word) (s : State) : (s.store x v).kindAt y = s.kindAt y := by simp [State.kindAt]

@[simp] theorem State.dmaWrites_a (w : List (Word × Byte)) (s : State) : (s.dmaWrites w).a = s.a := by induction w generalizing s <;> simp [State.dmaWrites, *]
@[simp] theorem State.dmaWrites_b (w : List (Word × Byte)) (s : State) : (s.dmaWrites w).b = s.b := by induction w generalizing s <;> simp [State.dmaWrites, *]
@[simp] theorem State.dmaWrites_c (w : List (Word × Byte)) (s : State) : (s.dmaWrites w).c = s.c := by induction w generalizing s <;> simp [State.dmaWrites, *]
@[simp] theorem State.dmaWrites_d (w : List (Word × Byte)) (s : State) : (s.dmaWrites w).d = s.d := by induction w generalizing s <;> simp [State.dmaWrites, *]
@[simp] theorem State.dmaWrites_e (w : List (Word × Byte)) (s : State) : (s.dmaWrites w).e = s.e := by induction w generalizing s <;> simp [State.dmaWrites, *]
@[simp] theorem State.dmaWrites_h (w : List (Word × Byte)) (s : State) : (s.dmaWrites w).h = s.h := by induction w generalizing s <;> simp [State.dmaWrites, *]
@[simp] theorem State.dmaWrites_l (w : List (Word × Byte)) (s : State) : (s.dmaWrites w).l = s.l := by induction w generalizing s <;> simp [State.dmaWrites, *]
@[simp] theorem State.dmaWrites_sp (w : List (Word × Byte)) (s : State) : (s.dmaWrites w).sp = s.sp := by induction w generalizing s <;> simp [State.dmaWrites, *]
@[simp] theorem State.dmaWrites_pc (w : List (Word × Byte)) (s : State) : (s.dmaWrites w).pc = s.pc := by induction w generalizing s <;> simp [State.dmaWrites, *]
@[simp] theorem State.dmaWrites_flags (w : List (Word × Byte)) (s : State) : (s.dmaWrites w).flags = s.flags := by induction w generalizing s <;> simp [State.dmaWrites, *]
@[simp] theorem State.dmaWrites_inte (w : List (Word × Byte)) (s : State) : (s.dmaWrites w).inte = s.inte := by induction w generalizing s <;> simp [State.dmaWrites, *]
@[simp] theorem State.dmaWrites_eiShadow (w : List (Word × Byte)) (s : State) : (s.dmaWrites w).eiShadow = s.eiShadow := by induction w generalizing s <;> simp [State.dmaWrites, *]
@[simp] theorem State.dmaWrites_halted (w : List (Word × Byte)) (s : State) : (s.dmaWrites w).halted = s.halted := by induction w generalizing s <;> simp [State.dmaWrites, *]
@[simp] theorem State.dmaWrites_launch (w : List (Word × Byte)) (s : State) : (s.dmaWrites w).launch = s.launch := by induction w generalizing s <;> simp [State.dmaWrites, *]
@[simp] theorem State.dmaWrites_env (w : List (Word × Byte)) (s : State) : (s.dmaWrites w).env = s.env := by induction w generalizing s <;> simp [State.dmaWrites, *]
@[simp] theorem State.dmaWrites_dma (w : List (Word × Byte)) (s : State) : (s.dmaWrites w).dma = s.dma := by induction w generalizing s <;> simp [State.dmaWrites, *]
@[simp] theorem State.dmaWrites_inputs (w : List (Word × Byte)) (s : State) : (s.dmaWrites w).inputs = s.inputs := by induction w generalizing s <;> simp [State.dmaWrites, *]
@[simp] theorem State.dmaWrites_draws (w : List (Word × Byte)) (s : State) : (s.dmaWrites w).draws = s.draws := by induction w generalizing s <;> simp [State.dmaWrites, *]
@[simp] theorem State.dmaWrites_reg (w : List (Word × Byte)) (r : Reg8) (s : State) : (s.dmaWrites w).reg r = s.reg r := by cases r <;> simp [State.reg]
@[simp] theorem State.dmaWrites_hl (w : List (Word × Byte)) (s : State) : (s.dmaWrites w).hl = s.hl := by simp [State.hl]
@[simp] theorem State.dmaWrites_kindAt (w : List (Word × Byte)) (y : Word) (s : State) : (s.dmaWrites w).kindAt y = s.kindAt y := by simp [State.kindAt]

@[simp] theorem State.busSlot_a  (s : State) : (s.busSlot).a = s.a := by unfold State.busSlot; split <;> simp
@[simp] theorem State.busSlot_b  (s : State) : (s.busSlot).b = s.b := by unfold State.busSlot; split <;> simp
@[simp] theorem State.busSlot_c  (s : State) : (s.busSlot).c = s.c := by unfold State.busSlot; split <;> simp
@[simp] theorem State.busSlot_d  (s : State) : (s.busSlot).d = s.d := by unfold State.busSlot; split <;> simp
@[simp] theorem State.busSlot_e  (s : State) : (s.busSlot).e = s.e := by unfold State.busSlot; split <;> simp
@[simp] theorem State.busSlot_h  (s : State) : (s.busSlot).h = s.h := by unfold State.busSlot; split <;> simp
@[simp] theorem State.busSlot_l  (s : State) : (s.busSlot).l = s.l := by unfold State.busSlot; split <;> simp
@[simp] theorem State.busSlot_sp  (s : State) : (s.busSlot).sp = s.sp := by unfold State.busSlot; split <;> simp
@[simp] theorem State.busSlot_pc  (s : State) : (s.busSlot).pc = s.pc := by unfold State.busSlot; split <;> simp
@[simp] theorem State.busSlot_flags  (s : State) : (s.busSlot).flags = s.flags := by unfold State.busSlot; split <;> simp
@[simp] theorem State.busSlot_inte  (s : State) : (s.busSlot).inte = s.inte := by unfold State.busSlot; split <;> simp
@[simp] theorem State.busSlot_eiShadow  (s : State) : (s.busSlot).eiShadow = s.eiShadow := by unfold State.busSlot; split <;> simp
@[simp] theorem State.busSlot_halted  (s : State) : (s.busSlot).halted = s.halted := by unfold State.busSlot; split <;> simp
@[simp] theorem State.busSlot_launch  (s : State) : (s.busSlot).launch = s.launch := by unfold State.busSlot; split <;> simp
@[simp] theorem State.busSlot_env  (s : State) : (s.busSlot).env = s.env := by unfold State.busSlot; split <;> simp
@[simp] theorem State.busSlot_inputs  (s : State) : (s.busSlot).inputs = s.inputs := by unfold State.busSlot; split <;> simp
@[simp] theorem State.busSlot_draws  (s : State) : (s.busSlot).draws = s.draws := by unfold State.busSlot; split <;> simp
@[simp] theorem State.busSlot_reg  (r : Reg8) (s : State) : (s.busSlot).reg r = s.reg r := by cases r <;> simp [State.reg]
@[simp] theorem State.busSlot_hl  (s : State) : (s.busSlot).hl = s.hl := by simp [State.hl]
@[simp] theorem State.busSlot_kindAt  (y : Word) (s : State) : (s.busSlot).kindAt y = s.kindAt y := by simp [State.kindAt]

@[simp] theorem State.input_a (src : Source) (s : State) : ((s.input src).2).a = s.a := by unfold State.input; split <;> rfl
@[simp] theorem State.input_b (src : Source) (s : State) : ((s.input src).2).b = s.b := by unfold State.input; split <;> rfl
@[simp] theorem State.input_c (src : Source) (s : State) : ((s.input src).2).c = s.c := by unfold State.input; split <;> rfl
@[simp] theorem State.input_d (src : Source) (s : State) : ((s.input src).2).d = s.d := by unfold State.input; split <;> rfl
@[simp] theorem State.input_e (src : Source) (s : State) : ((s.input src).2).e = s.e := by unfold State.input; split <;> rfl
@[simp] theorem State.input_h (src : Source) (s : State) : ((s.input src).2).h = s.h := by unfold State.input; split <;> rfl
@[simp] theorem State.input_l (src : Source) (s : State) : ((s.input src).2).l = s.l := by unfold State.input; split <;> rfl
@[simp] theorem State.input_sp (src : Source) (s : State) : ((s.input src).2).sp = s.sp := by unfold State.input; split <;> rfl
@[simp] theorem State.input_pc (src : Source) (s : State) : ((s.input src).2).pc = s.pc := by unfold State.input; split <;> rfl
@[simp] theorem State.input_flags (src : Source) (s : State) : ((s.input src).2).flags = s.flags := by unfold State.input; split <;> rfl
@[simp] theorem State.input_inte (src : Source) (s : State) : ((s.input src).2).inte = s.inte := by unfold State.input; split <;> rfl
@[simp] theorem State.input_eiShadow (src : Source) (s : State) : ((s.input src).2).eiShadow = s.eiShadow := by unfold State.input; split <;> rfl
@[simp] theorem State.input_halted (src : Source) (s : State) : ((s.input src).2).halted = s.halted := by unfold State.input; split <;> rfl
@[simp] theorem State.input_mem (src : Source) (s : State) : ((s.input src).2).mem = s.mem := by unfold State.input; split <;> rfl
@[simp] theorem State.input_launch (src : Source) (s : State) : ((s.input src).2).launch = s.launch := by unfold State.input; split <;> rfl
@[simp] theorem State.input_env (src : Source) (s : State) : ((s.input src).2).env = s.env := by unfold State.input; split <;> rfl
@[simp] theorem State.input_dma (src : Source) (s : State) : ((s.input src).2).dma = s.dma := by unfold State.input; split <;> rfl
@[simp] theorem State.input_outputs (src : Source) (s : State) : ((s.input src).2).outputs = s.outputs := by unfold State.input; split <;> rfl
@[simp] theorem State.input_reg (src : Source) (r : Reg8) (s : State) : ((s.input src).2).reg r = s.reg r := by cases r <;> simp [State.reg]
@[simp] theorem State.input_hl (src : Source) (s : State) : ((s.input src).2).hl = s.hl := by simp [State.hl]
@[simp] theorem State.input_kindAt (src : Source) (y : Word) (s : State) : ((s.input src).2).kindAt y = s.kindAt y := by simp [State.kindAt]

@[simp] theorem State.readMem_a (x : Word) (s : State) : ((s.readMem x).2).a = s.a := by unfold State.readMem; dsimp only; split <;> simp
@[simp] theorem State.readMem_b (x : Word) (s : State) : ((s.readMem x).2).b = s.b := by unfold State.readMem; dsimp only; split <;> simp
@[simp] theorem State.readMem_c (x : Word) (s : State) : ((s.readMem x).2).c = s.c := by unfold State.readMem; dsimp only; split <;> simp
@[simp] theorem State.readMem_d (x : Word) (s : State) : ((s.readMem x).2).d = s.d := by unfold State.readMem; dsimp only; split <;> simp
@[simp] theorem State.readMem_e (x : Word) (s : State) : ((s.readMem x).2).e = s.e := by unfold State.readMem; dsimp only; split <;> simp
@[simp] theorem State.readMem_h (x : Word) (s : State) : ((s.readMem x).2).h = s.h := by unfold State.readMem; dsimp only; split <;> simp
@[simp] theorem State.readMem_l (x : Word) (s : State) : ((s.readMem x).2).l = s.l := by unfold State.readMem; dsimp only; split <;> simp
@[simp] theorem State.readMem_sp (x : Word) (s : State) : ((s.readMem x).2).sp = s.sp := by unfold State.readMem; dsimp only; split <;> simp
@[simp] theorem State.readMem_pc (x : Word) (s : State) : ((s.readMem x).2).pc = s.pc := by unfold State.readMem; dsimp only; split <;> simp
@[simp] theorem State.readMem_flags (x : Word) (s : State) : ((s.readMem x).2).flags = s.flags := by unfold State.readMem; dsimp only; split <;> simp
@[simp] theorem State.readMem_inte (x : Word) (s : State) : ((s.readMem x).2).inte = s.inte := by unfold State.readMem; dsimp only; split <;> simp
@[simp] theorem State.readMem_eiShadow (x : Word) (s : State) : ((s.readMem x).2).eiShadow = s.eiShadow := by unfold State.readMem; dsimp only; split <;> simp
@[simp] theorem State.readMem_halted (x : Word) (s : State) : ((s.readMem x).2).halted = s.halted := by unfold State.readMem; dsimp only; split <;> simp
@[simp] theorem State.readMem_launch (x : Word) (s : State) : ((s.readMem x).2).launch = s.launch := by unfold State.readMem; dsimp only; split <;> simp
@[simp] theorem State.readMem_env (x : Word) (s : State) : ((s.readMem x).2).env = s.env := by unfold State.readMem; dsimp only; split <;> simp
@[simp] theorem State.readMem_reg (x : Word) (r : Reg8) (s : State) : ((s.readMem x).2).reg r = s.reg r := by cases r <;> simp [State.reg]
@[simp] theorem State.readMem_hl (x : Word) (s : State) : ((s.readMem x).2).hl = s.hl := by simp [State.hl]
@[simp] theorem State.readMem_kindAt (x : Word) (y : Word) (s : State) : ((s.readMem x).2).kindAt y = s.kindAt y := by simp [State.kindAt]

@[simp] theorem State.writeMem_a (x : Word) (v : Byte) (s : State) : (s.writeMem x v).a = s.a := by simp [State.writeMem]
@[simp] theorem State.writeMem_b (x : Word) (v : Byte) (s : State) : (s.writeMem x v).b = s.b := by simp [State.writeMem]
@[simp] theorem State.writeMem_c (x : Word) (v : Byte) (s : State) : (s.writeMem x v).c = s.c := by simp [State.writeMem]
@[simp] theorem State.writeMem_d (x : Word) (v : Byte) (s : State) : (s.writeMem x v).d = s.d := by simp [State.writeMem]
@[simp] theorem State.writeMem_e (x : Word) (v : Byte) (s : State) : (s.writeMem x v).e = s.e := by simp [State.writeMem]
@[simp] theorem State.writeMem_h (x : Word) (v : Byte) (s : State) : (s.writeMem x v).h = s.h := by simp [State.writeMem]
@[simp] theorem State.writeMem_l (x : Word) (v : Byte) (s : State) : (s.writeMem x v).l = s.l := by simp [State.writeMem]
@[simp] theorem State.writeMem_sp (x : Word) (v : Byte) (s : State) : (s.writeMem x v).sp = s.sp := by simp [State.writeMem]
@[simp] theorem State.writeMem_pc (x : Word) (v : Byte) (s : State) : (s.writeMem x v).pc = s.pc := by simp [State.writeMem]
@[simp] theorem State.writeMem_flags (x : Word) (v : Byte) (s : State) : (s.writeMem x v).flags = s.flags := by simp [State.writeMem]
@[simp] theorem State.writeMem_inte (x : Word) (v : Byte) (s : State) : (s.writeMem x v).inte = s.inte := by simp [State.writeMem]
@[simp] theorem State.writeMem_eiShadow (x : Word) (v : Byte) (s : State) : (s.writeMem x v).eiShadow = s.eiShadow := by simp [State.writeMem]
@[simp] theorem State.writeMem_halted (x : Word) (v : Byte) (s : State) : (s.writeMem x v).halted = s.halted := by simp [State.writeMem]
@[simp] theorem State.writeMem_launch (x : Word) (v : Byte) (s : State) : (s.writeMem x v).launch = s.launch := by simp [State.writeMem]
@[simp] theorem State.writeMem_env (x : Word) (v : Byte) (s : State) : (s.writeMem x v).env = s.env := by simp [State.writeMem]
@[simp] theorem State.writeMem_inputs (x : Word) (v : Byte) (s : State) : (s.writeMem x v).inputs = s.inputs := by simp [State.writeMem]
@[simp] theorem State.writeMem_draws (x : Word) (v : Byte) (s : State) : (s.writeMem x v).draws = s.draws := by simp [State.writeMem]
@[simp] theorem State.writeMem_reg (x : Word) (v : Byte) (r : Reg8) (s : State) : (s.writeMem x v).reg r = s.reg r := by cases r <;> simp [State.reg]
@[simp] theorem State.writeMem_hl (x : Word) (v : Byte) (s : State) : (s.writeMem x v).hl = s.hl := by simp [State.hl]
@[simp] theorem State.writeMem_kindAt (x : Word) (v : Byte) (y : Word) (s : State) : (s.writeMem x v).kindAt y = s.kindAt y := by simp [State.kindAt]

@[simp] theorem State.ioRead_a (p : Byte) (s : State) : ((s.ioRead p).2).a = s.a := by simp [State.ioRead]
@[simp] theorem State.ioRead_b (p : Byte) (s : State) : ((s.ioRead p).2).b = s.b := by simp [State.ioRead]
@[simp] theorem State.ioRead_c (p : Byte) (s : State) : ((s.ioRead p).2).c = s.c := by simp [State.ioRead]
@[simp] theorem State.ioRead_d (p : Byte) (s : State) : ((s.ioRead p).2).d = s.d := by simp [State.ioRead]
@[simp] theorem State.ioRead_e (p : Byte) (s : State) : ((s.ioRead p).2).e = s.e := by simp [State.ioRead]
@[simp] theorem State.ioRead_h (p : Byte) (s : State) : ((s.ioRead p).2).h = s.h := by simp [State.ioRead]
@[simp] theorem State.ioRead_l (p : Byte) (s : State) : ((s.ioRead p).2).l = s.l := by simp [State.ioRead]
@[simp] theorem State.ioRead_sp (p : Byte) (s : State) : ((s.ioRead p).2).sp = s.sp := by simp [State.ioRead]
@[simp] theorem State.ioRead_pc (p : Byte) (s : State) : ((s.ioRead p).2).pc = s.pc := by simp [State.ioRead]
@[simp] theorem State.ioRead_flags (p : Byte) (s : State) : ((s.ioRead p).2).flags = s.flags := by simp [State.ioRead]
@[simp] theorem State.ioRead_inte (p : Byte) (s : State) : ((s.ioRead p).2).inte = s.inte := by simp [State.ioRead]
@[simp] theorem State.ioRead_eiShadow (p : Byte) (s : State) : ((s.ioRead p).2).eiShadow = s.eiShadow := by simp [State.ioRead]
@[simp] theorem State.ioRead_halted (p : Byte) (s : State) : ((s.ioRead p).2).halted = s.halted := by simp [State.ioRead]
@[simp] theorem State.ioRead_launch (p : Byte) (s : State) : ((s.ioRead p).2).launch = s.launch := by simp [State.ioRead]
@[simp] theorem State.ioRead_env (p : Byte) (s : State) : ((s.ioRead p).2).env = s.env := by simp [State.ioRead]
@[simp] theorem State.ioRead_reg (p : Byte) (r : Reg8) (s : State) : ((s.ioRead p).2).reg r = s.reg r := by cases r <;> simp [State.reg]
@[simp] theorem State.ioRead_hl (p : Byte) (s : State) : ((s.ioRead p).2).hl = s.hl := by simp [State.hl]
@[simp] theorem State.ioRead_kindAt (p : Byte) (y : Word) (s : State) : ((s.ioRead p).2).kindAt y = s.kindAt y := by simp [State.kindAt]

@[simp] theorem State.ioWrite_a (p v : Byte) (s : State) : (s.ioWrite p v).a = s.a := by simp [State.ioWrite]
@[simp] theorem State.ioWrite_b (p v : Byte) (s : State) : (s.ioWrite p v).b = s.b := by simp [State.ioWrite]
@[simp] theorem State.ioWrite_c (p v : Byte) (s : State) : (s.ioWrite p v).c = s.c := by simp [State.ioWrite]
@[simp] theorem State.ioWrite_d (p v : Byte) (s : State) : (s.ioWrite p v).d = s.d := by simp [State.ioWrite]
@[simp] theorem State.ioWrite_e (p v : Byte) (s : State) : (s.ioWrite p v).e = s.e := by simp [State.ioWrite]
@[simp] theorem State.ioWrite_h (p v : Byte) (s : State) : (s.ioWrite p v).h = s.h := by simp [State.ioWrite]
@[simp] theorem State.ioWrite_l (p v : Byte) (s : State) : (s.ioWrite p v).l = s.l := by simp [State.ioWrite]
@[simp] theorem State.ioWrite_sp (p v : Byte) (s : State) : (s.ioWrite p v).sp = s.sp := by simp [State.ioWrite]
@[simp] theorem State.ioWrite_pc (p v : Byte) (s : State) : (s.ioWrite p v).pc = s.pc := by simp [State.ioWrite]
@[simp] theorem State.ioWrite_flags (p v : Byte) (s : State) : (s.ioWrite p v).flags = s.flags := by simp [State.ioWrite]
@[simp] theorem State.ioWrite_inte (p v : Byte) (s : State) : (s.ioWrite p v).inte = s.inte := by simp [State.ioWrite]
@[simp] theorem State.ioWrite_eiShadow (p v : Byte) (s : State) : (s.ioWrite p v).eiShadow = s.eiShadow := by simp [State.ioWrite]
@[simp] theorem State.ioWrite_halted (p v : Byte) (s : State) : (s.ioWrite p v).halted = s.halted := by simp [State.ioWrite]
@[simp] theorem State.ioWrite_launch (p v : Byte) (s : State) : (s.ioWrite p v).launch = s.launch := by simp [State.ioWrite]
@[simp] theorem State.ioWrite_env (p v : Byte) (s : State) : (s.ioWrite p v).env = s.env := by simp [State.ioWrite]
@[simp] theorem State.ioWrite_inputs (p v : Byte) (s : State) : (s.ioWrite p v).inputs = s.inputs := by simp [State.ioWrite]
@[simp] theorem State.ioWrite_draws (p v : Byte) (s : State) : (s.ioWrite p v).draws = s.draws := by simp [State.ioWrite]
@[simp] theorem State.ioWrite_reg (p v : Byte) (r : Reg8) (s : State) : (s.ioWrite p v).reg r = s.reg r := by cases r <;> simp [State.reg]
@[simp] theorem State.ioWrite_hl (p v : Byte) (s : State) : (s.ioWrite p v).hl = s.hl := by simp [State.hl]
@[simp] theorem State.ioWrite_kindAt (p v : Byte) (y : Word) (s : State) : (s.ioWrite p v).kindAt y = s.kindAt y := by simp [State.kindAt]

@[simp] theorem State.readMem16_a (x : Word) (s : State) : ((s.readMem16 x).2).a = s.a := by simp [State.readMem16]
@[simp] theorem State.readMem16_b (x : Word) (s : State) : ((s.readMem16 x).2).b = s.b := by simp [State.readMem16]
@[simp] theorem State.readMem16_c (x : Word) (s : State) : ((s.readMem16 x).2).c = s.c := by simp [State.readMem16]
@[simp] theorem State.readMem16_d (x : Word) (s : State) : ((s.readMem16 x).2).d = s.d := by simp [State.readMem16]
@[simp] theorem State.readMem16_e (x : Word) (s : State) : ((s.readMem16 x).2).e = s.e := by simp [State.readMem16]
@[simp] theorem State.readMem16_h (x : Word) (s : State) : ((s.readMem16 x).2).h = s.h := by simp [State.readMem16]
@[simp] theorem State.readMem16_l (x : Word) (s : State) : ((s.readMem16 x).2).l = s.l := by simp [State.readMem16]
@[simp] theorem State.readMem16_sp (x : Word) (s : State) : ((s.readMem16 x).2).sp = s.sp := by simp [State.readMem16]
@[simp] theorem State.readMem16_pc (x : Word) (s : State) : ((s.readMem16 x).2).pc = s.pc := by simp [State.readMem16]
@[simp] theorem State.readMem16_flags (x : Word) (s : State) : ((s.readMem16 x).2).flags = s.flags := by simp [State.readMem16]
@[simp] theorem State.readMem16_inte (x : Word) (s : State) : ((s.readMem16 x).2).inte = s.inte := by simp [State.readMem16]
@[simp] theorem State.readMem16_eiShadow (x : Word) (s : State) : ((s.readMem16 x).2).eiShadow = s.eiShadow := by simp [State.readMem16]
@[simp] theorem State.readMem16_halted (x : Word) (s : State) : ((s.readMem16 x).2).halted = s.halted := by simp [State.readMem16]
@[simp] theorem State.readMem16_launch (x : Word) (s : State) : ((s.readMem16 x).2).launch = s.launch := by simp [State.readMem16]
@[simp] theorem State.readMem16_env (x : Word) (s : State) : ((s.readMem16 x).2).env = s.env := by simp [State.readMem16]
@[simp] theorem State.readMem16_reg (x : Word) (r : Reg8) (s : State) : ((s.readMem16 x).2).reg r = s.reg r := by cases r <;> simp [State.reg]
@[simp] theorem State.readMem16_hl (x : Word) (s : State) : ((s.readMem16 x).2).hl = s.hl := by simp [State.hl]
@[simp] theorem State.readMem16_kindAt (x : Word) (y : Word) (s : State) : ((s.readMem16 x).2).kindAt y = s.kindAt y := by simp [State.kindAt]

@[simp] theorem State.writeMem16_a (x v : Word) (s : State) : (s.writeMem16 x v).a = s.a := by simp [State.writeMem16]
@[simp] theorem State.writeMem16_b (x v : Word) (s : State) : (s.writeMem16 x v).b = s.b := by simp [State.writeMem16]
@[simp] theorem State.writeMem16_c (x v : Word) (s : State) : (s.writeMem16 x v).c = s.c := by simp [State.writeMem16]
@[simp] theorem State.writeMem16_d (x v : Word) (s : State) : (s.writeMem16 x v).d = s.d := by simp [State.writeMem16]
@[simp] theorem State.writeMem16_e (x v : Word) (s : State) : (s.writeMem16 x v).e = s.e := by simp [State.writeMem16]
@[simp] theorem State.writeMem16_h (x v : Word) (s : State) : (s.writeMem16 x v).h = s.h := by simp [State.writeMem16]
@[simp] theorem State.writeMem16_l (x v : Word) (s : State) : (s.writeMem16 x v).l = s.l := by simp [State.writeMem16]
@[simp] theorem State.writeMem16_sp (x v : Word) (s : State) : (s.writeMem16 x v).sp = s.sp := by simp [State.writeMem16]
@[simp] theorem State.writeMem16_pc (x v : Word) (s : State) : (s.writeMem16 x v).pc = s.pc := by simp [State.writeMem16]
@[simp] theorem State.writeMem16_flags (x v : Word) (s : State) : (s.writeMem16 x v).flags = s.flags := by simp [State.writeMem16]
@[simp] theorem State.writeMem16_inte (x v : Word) (s : State) : (s.writeMem16 x v).inte = s.inte := by simp [State.writeMem16]
@[simp] theorem State.writeMem16_eiShadow (x v : Word) (s : State) : (s.writeMem16 x v).eiShadow = s.eiShadow := by simp [State.writeMem16]
@[simp] theorem State.writeMem16_halted (x v : Word) (s : State) : (s.writeMem16 x v).halted = s.halted := by simp [State.writeMem16]
@[simp] theorem State.writeMem16_launch (x v : Word) (s : State) : (s.writeMem16 x v).launch = s.launch := by simp [State.writeMem16]
@[simp] theorem State.writeMem16_env (x v : Word) (s : State) : (s.writeMem16 x v).env = s.env := by simp [State.writeMem16]
@[simp] theorem State.writeMem16_inputs (x v : Word) (s : State) : (s.writeMem16 x v).inputs = s.inputs := by simp [State.writeMem16]
@[simp] theorem State.writeMem16_draws (x v : Word) (s : State) : (s.writeMem16 x v).draws = s.draws := by simp [State.writeMem16]
@[simp] theorem State.writeMem16_reg (x v : Word) (r : Reg8) (s : State) : (s.writeMem16 x v).reg r = s.reg r := by cases r <;> simp [State.reg]
@[simp] theorem State.writeMem16_hl (x v : Word) (s : State) : (s.writeMem16 x v).hl = s.hl := by simp [State.hl]
@[simp] theorem State.writeMem16_kindAt (x v : Word) (y : Word) (s : State) : (s.writeMem16 x v).kindAt y = s.kindAt y := by simp [State.kindAt]

@[simp] theorem State.push16_a (v : Word) (s : State) : (s.push16 v).a = s.a := by simp [State.push16]
@[simp] theorem State.push16_b (v : Word) (s : State) : (s.push16 v).b = s.b := by simp [State.push16]
@[simp] theorem State.push16_c (v : Word) (s : State) : (s.push16 v).c = s.c := by simp [State.push16]
@[simp] theorem State.push16_d (v : Word) (s : State) : (s.push16 v).d = s.d := by simp [State.push16]
@[simp] theorem State.push16_e (v : Word) (s : State) : (s.push16 v).e = s.e := by simp [State.push16]
@[simp] theorem State.push16_h (v : Word) (s : State) : (s.push16 v).h = s.h := by simp [State.push16]
@[simp] theorem State.push16_l (v : Word) (s : State) : (s.push16 v).l = s.l := by simp [State.push16]
@[simp] theorem State.push16_pc (v : Word) (s : State) : (s.push16 v).pc = s.pc := by simp [State.push16]
@[simp] theorem State.push16_flags (v : Word) (s : State) : (s.push16 v).flags = s.flags := by simp [State.push16]
@[simp] theorem State.push16_inte (v : Word) (s : State) : (s.push16 v).inte = s.inte := by simp [State.push16]
@[simp] theorem State.push16_eiShadow (v : Word) (s : State) : (s.push16 v).eiShadow = s.eiShadow := by simp [State.push16]
@[simp] theorem State.push16_halted (v : Word) (s : State) : (s.push16 v).halted = s.halted := by simp [State.push16]
@[simp] theorem State.push16_launch (v : Word) (s : State) : (s.push16 v).launch = s.launch := by simp [State.push16]
@[simp] theorem State.push16_env (v : Word) (s : State) : (s.push16 v).env = s.env := by simp [State.push16]
@[simp] theorem State.push16_inputs (v : Word) (s : State) : (s.push16 v).inputs = s.inputs := by simp [State.push16]
@[simp] theorem State.push16_draws (v : Word) (s : State) : (s.push16 v).draws = s.draws := by simp [State.push16]
@[simp] theorem State.push16_sp (v : Word) (s : State) : (s.push16 v).sp = s.sp - 2#16 := rfl
@[simp] theorem State.push16_reg (v : Word) (r : Reg8) (s : State) : (s.push16 v).reg r = s.reg r := by cases r <;> simp [State.reg]
@[simp] theorem State.push16_hl (v : Word) (s : State) : (s.push16 v).hl = s.hl := by simp [State.hl]
@[simp] theorem State.push16_kindAt (v : Word) (y : Word) (s : State) : (s.push16 v).kindAt y = s.kindAt y := by simp [State.kindAt]

@[simp] theorem State.pop16_a  (s : State) : (s.pop16.2).a = s.a := by simp [State.pop16]
@[simp] theorem State.pop16_b  (s : State) : (s.pop16.2).b = s.b := by simp [State.pop16]
@[simp] theorem State.pop16_c  (s : State) : (s.pop16.2).c = s.c := by simp [State.pop16]
@[simp] theorem State.pop16_d  (s : State) : (s.pop16.2).d = s.d := by simp [State.pop16]
@[simp] theorem State.pop16_e  (s : State) : (s.pop16.2).e = s.e := by simp [State.pop16]
@[simp] theorem State.pop16_h  (s : State) : (s.pop16.2).h = s.h := by simp [State.pop16]
@[simp] theorem State.pop16_l  (s : State) : (s.pop16.2).l = s.l := by simp [State.pop16]
@[simp] theorem State.pop16_pc  (s : State) : (s.pop16.2).pc = s.pc := by simp [State.pop16]
@[simp] theorem State.pop16_flags  (s : State) : (s.pop16.2).flags = s.flags := by simp [State.pop16]
@[simp] theorem State.pop16_inte  (s : State) : (s.pop16.2).inte = s.inte := by simp [State.pop16]
@[simp] theorem State.pop16_eiShadow  (s : State) : (s.pop16.2).eiShadow = s.eiShadow := by simp [State.pop16]
@[simp] theorem State.pop16_halted  (s : State) : (s.pop16.2).halted = s.halted := by simp [State.pop16]
@[simp] theorem State.pop16_launch  (s : State) : (s.pop16.2).launch = s.launch := by simp [State.pop16]
@[simp] theorem State.pop16_env  (s : State) : (s.pop16.2).env = s.env := by simp [State.pop16]
@[simp] theorem State.pop16_sp  (s : State) : (s.pop16.2).sp = s.sp + 2#16 := rfl
@[simp] theorem State.pop16_reg  (r : Reg8) (s : State) : (s.pop16.2).reg r = s.reg r := by cases r <;> simp [State.reg]
@[simp] theorem State.pop16_hl  (s : State) : (s.pop16.2).hl = s.hl := by simp [State.hl]
@[simp] theorem State.pop16_kindAt  (y : Word) (s : State) : (s.pop16.2).kindAt y = s.kindAt y := by simp [State.kindAt]
/-- What a cell reads as depends on memory alone. -/
theorem State.peek_congr {s t : State} (h : t.mem = s.mem) (x : Word) : t.peek x = s.peek x := by
  simp [State.peek, h]

/-- What `MEMMAP` says of an address depends on the launch alone. -/
theorem State.kindAt_congr {s t : State} (h : t.launch = s.launch) (x : Word) : t.kindAt x = s.kindAt x := by
  simp [State.kindAt, h]

/-! ### A write, and the slot of the external bus master -/

/-- What a write of a byte can do, by what `MEMMAP` says of the address. -/
theorem State.store_spec (x : Word) (v : Byte) (s : State) :
    (s.kindAt x = .ram ∧ s.store x v = { s with mem := Memory.write s.mem x.toNat v }) ∨
      ((s.kindAt x = .rom ∨ s.kindAt x = .unpopulated) ∧ s.store x v = s) ∨
      (s.kindAt x = .device ∧ s.store x v = { s with outputs := s.outputs ++ [.device x v] }) := by
  unfold State.store
  split <;> next h => simp [h]

theorem State.store_wf (x : Word) (v : Byte) {s : State} (h : Memory.wf s.mem = true) :
    Memory.wf (s.store x v).mem = true := by
  rcases State.store_spec x v s with ⟨_, e⟩ | ⟨_, e⟩ | ⟨_, e⟩ <;> rw [e]
  · exact Memory.wf_write _ _ _ h
  · exact h
  · exact h

/-- Every cell after a write: the byte written, where it is ram. -/
theorem State.store_peek (x : Word) (v : Byte) (s : State) (y : Word) :
    (s.store x v).peek y = if y = x ∧ s.kindAt x = .ram then v else s.peek y := by
  rcases State.store_spec x v s with ⟨k, e⟩ | ⟨k, e⟩ | ⟨k, e⟩ <;> rw [e]
  · by_cases hy : y = x
    · simp [State.peek, hy, k]
    · have : y.toNat ≠ x.toNat := fun hn => hy (BitVec.eq_of_toNat_eq hn)
      simp [State.peek, hy, Memory.read_write_other _ _ this]
  · rw [if_neg]; rintro ⟨-, k'⟩; simp [k'] at k
  · rw [if_neg]
    · rfl
    · rintro ⟨-, k'⟩; simp [k'] at k

/-- The events after a write: one more, where the address is a device's. -/
theorem State.store_outputs (x : Word) (v : Byte) (s : State) :
    (s.store x v).outputs = s.outputs ++ (if s.kindAt x = .device then [.device x v] else []) := by
  rcases State.store_spec x v s with ⟨k, e⟩ | ⟨k | k, e⟩ | ⟨k, e⟩ <;> simp [e, k]

theorem State.dmaWrites_wf (w : List (Word × Byte)) {s : State} (h : Memory.wf s.mem = true) :
    Memory.wf (s.dmaWrites w).mem = true := by
  induction w generalizing s with
  | nil => exact h
  | cons p rest ih => exact ih (State.store_wf p.1 p.2 h)

/-- The writes of an external bus master leave every cell that is not ram as it was (R57, D22). -/
theorem State.dmaWrites_peek_other (w : List (Word × Byte)) {s : State} {y : Word} (h : s.kindAt y ≠ .ram) :
    (s.dmaWrites w).peek y = s.peek y := by
  induction w generalizing s with
  | nil => rfl
  | cons p rest ih =>
    rw [State.dmaWrites, ih (by simpa using h), State.store_peek, if_neg]
    rintro ⟨rfl, k⟩; exact h k

/-- The events after the writes of an external bus master: its writes to devices, in order. -/
theorem State.dmaWrites_outputs (w : List (Word × Byte)) (s : State) :
    (s.dmaWrites w).outputs =
      s.outputs ++ (w.filter fun p => s.kindAt p.1 = .device).map fun p => Output.device p.1 p.2 := by
  induction w generalizing s with
  | nil => simp [State.dmaWrites]
  | cons p rest ih =>
    rw [State.dmaWrites, ih, State.store_outputs]
    by_cases k : s.kindAt p.1 = .device <;> simp [k]

/-- What a slot is: the writes scheduled for it, and no longer scheduled. -/
theorem State.busSlot_spec (s : State) :
    s.busSlot = State.dmaWrites (s.dma.headD []) { s with dma := s.dma.tail } := by
  unfold State.busSlot
  split <;> next h =>
    rw [h]
    first
    | rfl
    | cases s; cases h; rfl

@[simp] theorem State.busSlot_dma_eq (s : State) : s.busSlot.dma = s.dma.tail := by rw [State.busSlot_spec]; simp

/-- With no external bus master scheduled its slot does nothing. -/
@[simp] theorem State.busSlot_plain {s : State} (h : s.dma = []) : s.busSlot = s := by
  unfold State.busSlot; rw [h]

theorem State.busSlot_wf {s : State} (h : Memory.wf s.mem = true) : Memory.wf s.busSlot.mem = true := by
  rw [State.busSlot_spec]; exact State.dmaWrites_wf _ h

/-- A slot takes back no event. -/
theorem State.busSlot_outputs_grow (s : State) : ∃ new, s.busSlot.outputs = s.outputs ++ new := by
  rw [State.busSlot_spec, State.dmaWrites_outputs]; exact ⟨_, rfl⟩

/-! ### Inputs -/

/-- What an input can be: the first byte scripted for its source, or one more free value. -/
theorem State.input_spec (src : Source) (s : State) :
    (∃ v rest, takeInput src s.inputs = some (v, rest) ∧ s.input src = (v, { s with inputs := rest })) ∨
      (takeInput src s.inputs = none ∧ s.input src = (freeInput src s.draws, { s with draws := s.draws + 1 })) := by
  unfold State.input
  split
  · next v rest h => exact .inl ⟨v, rest, h, rfl⟩
  · next h => exact .inr ⟨h, rfl⟩

/-! ### One byte of memory -/

/-- What a read of a byte can be, by what `MEMMAP` says of the address. -/
theorem State.readMem_spec (x : Word) (s : State) :
    ((s.kindAt x = .ram ∨ s.kindAt x = .rom) ∧ s.readMem x = (s.busSlot.peek x, s.busSlot)) ∨
      (s.kindAt x = .unpopulated ∧
        s.readMem x = (Config.openBus x s.draws, { s.busSlot with draws := s.draws + 1 })) ∨
      (s.kindAt x = .device ∧ s.readMem x = s.busSlot.input (.device x)) := by
  unfold State.readMem; dsimp only
  rw [State.busSlot_kindAt, State.busSlot_draws]
  split <;> next h => simp [h]

theorem State.readMem_memory {x : Word} {s : State} (h : s.kindAt x = .ram ∨ s.kindAt x = .rom) :
    s.readMem x = (s.busSlot.peek x, s.busSlot) := by
  rcases State.readMem_spec x s with ⟨_, e⟩ | ⟨k, _⟩ | ⟨k, _⟩
  · exact e
  · simp [k] at h
  · simp [k] at h

theorem State.readMem_mem (x : Word) (s : State) : (s.readMem x).2.mem = s.busSlot.mem := by
  unfold State.readMem; dsimp only; split <;> simp

/-- A read records no event of its own. -/
@[simp] theorem State.readMem_outputs (x : Word) (s : State) : (s.readMem x).2.outputs = s.busSlot.outputs := by
  unfold State.readMem; dsimp only; split <;> simp

@[simp] theorem State.readMem_dma (x : Word) (s : State) : (s.readMem x).2.dma = s.dma.tail := by
  unfold State.readMem; dsimp only; split <;> simp

/-- What a write of a byte can be, by what `MEMMAP` says of the address. -/
theorem State.writeMem_spec (x : Word) (v : Byte) (s : State) :
    (s.kindAt x = .ram ∧ s.writeMem x v = { s.busSlot with mem := Memory.write s.busSlot.mem x.toNat v }) ∨
      ((s.kindAt x = .rom ∨ s.kindAt x = .unpopulated) ∧ s.writeMem x v = s.busSlot) ∨
      (s.kindAt x = .device ∧
        s.writeMem x v = { s.busSlot with outputs := s.busSlot.outputs ++ [.device x v] }) := by
  rw [← State.busSlot_kindAt x s]
  exact State.store_spec x v s.busSlot

/-- The events after a store: those of the slot before it, and one more where the address is a device's. -/
theorem State.writeMem_outputs (x : Word) (v : Byte) (s : State) :
    (s.writeMem x v).outputs = s.busSlot.outputs ++ (if s.kindAt x = .device then [.device x v] else []) := by
  rw [State.writeMem, State.store_outputs, State.busSlot_kindAt]

@[simp] theorem State.writeMem_dma (x : Word) (v : Byte) (s : State) : (s.writeMem x v).dma = s.dma.tail := by
  simp [State.writeMem]

@[simp] theorem State.ioRead_dma (p : Byte) (s : State) : (s.ioRead p).2.dma = s.dma.tail := by simp [State.ioRead]

@[simp] theorem State.ioRead_mem (p : Byte) (s : State) : (s.ioRead p).2.mem = s.busSlot.mem := by simp [State.ioRead]

@[simp] theorem State.ioRead_outputs (p : Byte) (s : State) : (s.ioRead p).2.outputs = s.busSlot.outputs := by
  simp [State.ioRead]

@[simp] theorem State.ioWrite_dma (p v : Byte) (s : State) : (s.ioWrite p v).dma = s.dma.tail := by simp [State.ioWrite]

@[simp] theorem State.ioWrite_mem (p v : Byte) (s : State) : (s.ioWrite p v).mem = s.busSlot.mem := by simp [State.ioWrite]

/-! ### The canonical form -/

theorem State.readMem_wf (x : Word) {s : State} (h : Memory.wf s.mem = true) : Memory.wf (s.readMem x).2.mem = true := by
  rw [State.readMem_mem]; exact State.busSlot_wf h

theorem State.writeMem_wf (x : Word) (v : Byte) {s : State} (h : Memory.wf s.mem = true) :
    Memory.wf (s.writeMem x v).mem = true := State.store_wf _ _ (State.busSlot_wf h)

theorem State.ioRead_wf (p : Byte) {s : State} (h : Memory.wf s.mem = true) : Memory.wf (s.ioRead p).2.mem = true := by
  rw [State.ioRead_mem]; exact State.busSlot_wf h

theorem State.ioWrite_wf (p v : Byte) {s : State} (h : Memory.wf s.mem = true) : Memory.wf (s.ioWrite p v).mem = true := by
  rw [State.ioWrite_mem]; exact State.busSlot_wf h

theorem State.readMem16_wf (x : Word) {s : State} (h : Memory.wf s.mem = true) : Memory.wf (s.readMem16 x).2.mem = true :=
  State.readMem_wf _ (State.readMem_wf _ h)

theorem State.writeMem16_wf (x v : Word) {s : State} (h : Memory.wf s.mem = true) :
    Memory.wf (s.writeMem16 x v).mem = true := State.writeMem_wf _ _ (State.writeMem_wf _ _ h)

theorem State.push16_wf (v : Word) {s : State} (h : Memory.wf s.mem = true) : Memory.wf (s.push16 v).mem = true :=
  State.writeMem_wf _ _ (State.writeMem_wf _ _ h)

theorem State.pop16_wf {s : State} (h : Memory.wf s.mem = true) : Memory.wf s.pop16.2.mem = true :=
  State.readMem16_wf _ h

/-- The memory of the reset state is in canonical form. -/
theorem State.reset_mem_wf : Memory.wf State.reset.mem = true := rfl

/-! ### The plain case: no external bus master scheduled -/

theorem State.readMem_plain {x : Word} {s : State} (h : s.dma = []) : (s.readMem x).2.mem = s.mem := by
  rw [State.readMem_mem, State.busSlot_plain h]

@[simp] theorem State.readMem_peek {x : Word} {s : State} (h : s.dma = []) (y : Word) : (s.readMem x).2.peek y = s.peek y := by
  simp [State.peek, State.readMem_plain h]

theorem State.readMem16_plain {x : Word} {s : State} (h : s.dma = []) : (s.readMem16 x).2.mem = s.mem := by
  simp only [State.readMem16]
  rw [State.readMem_plain (by simp [h]), State.readMem_plain h]

/-- The word at two addresses of memory: the low byte at the lower one (R51). -/
theorem State.readMem16_value {x : Word} {s : State} (h : s.dma = []) (h0 : s.kindAt x = .ram ∨ s.kindAt x = .rom)
    (h1 : s.kindAt (x + 1#16) = .ram ∨ s.kindAt (x + 1#16) = .rom) :
    (s.readMem16 x).1 = joinBytes (s.peek (x + 1#16)) (s.peek x) := by
  simp [State.readMem16, State.readMem_memory h0, State.busSlot_plain h, State.readMem_memory h1]

/-- Every cell after a store. -/
theorem State.writeMem_peek {x : Word} {v : Byte} {s : State} (h : s.dma = []) (y : Word) :
    (s.writeMem x v).peek y = if y = x ∧ s.kindAt x = .ram then v else s.peek y := by
  rw [State.writeMem, State.busSlot_plain h, State.store_peek]

/-- Every cell after a push: the two bytes below SP, where they are ram. -/
theorem State.push16_peek {v : Word} {s : State} (h : s.dma = []) (y : Word) :
    (s.push16 v).peek y = if y = s.sp - 2#16 ∧ s.kindAt y = .ram then loByte v
      else if y = s.sp - 1#16 ∧ s.kindAt y = .ram then hiByte v else s.peek y := by
  have : (s.push16 v).peek y = ((s.writeMem (s.sp - 1#16) (hiByte v)).writeMem (s.sp - 2#16) (loByte v)).peek y := rfl
  rw [this, State.writeMem_peek (by simp [h]), State.writeMem_peek h, State.writeMem_kindAt]
  by_cases h2 : y = s.sp - 2#16
  · subst h2
    have ne : s.sp - 2#16 ≠ s.sp - 1#16 := by bv_omega
    simp [ne]
  · by_cases h1 : y = s.sp - 1#16 <;> simp [h2, h1]

@[simp] theorem State.pop16_peek {s : State} (h : s.dma = []) (y : Word) : s.pop16.2.peek y = s.peek y := by
  have : s.pop16.2.mem = s.mem := State.readMem16_plain h
  simp [State.peek, this]

/-- The word on top of a stack in memory (R54). -/
theorem State.pop16_value {s : State} (h : s.dma = []) (h0 : s.kindAt s.sp = .ram ∨ s.kindAt s.sp = .rom)
    (h1 : s.kindAt (s.sp + 1#16) = .ram ∨ s.kindAt (s.sp + 1#16) = .rom) :
    s.pop16.1 = joinBytes (s.peek (s.sp + 1#16)) (s.peek s.sp) := State.readMem16_value h h0 h1

end Sys2Proof.Machine
end

