-- ==== Sys2Proof/Laws/PerInstr.lean ====
section
/-! SUPPORT. A per-instruction family: the length that the decoder reads from the first byte (R89) is the number of
bytes the encoder writes (R81). One lemma per constructor. -/

namespace Sys2Proof.Laws.EncodedLength

/-- The first byte of the encoding tells the encoding's length. -/
def Statement (i : Instr) : Prop := opcodeLength ((encode i).headD 0#8) = (encode i).length

theorem movBB : Statement (.movBB) := by
  change opcodeLength 0x40#8 = 1; decide
theorem movBC : Statement (.movBC) := by
  change opcodeLength 0x41#8 = 1; decide
theorem movBD : Statement (.movBD) := by
  change opcodeLength 0x42#8 = 1; decide
theorem movBE : Statement (.movBE) := by
  change opcodeLength 0x43#8 = 1; decide
theorem movBH : Statement (.movBH) := by
  change opcodeLength 0x44#8 = 1; decide
theorem movBL : Statement (.movBL) := by
  change opcodeLength 0x45#8 = 1; decide
theorem movBA : Statement (.movBA) := by
  change opcodeLength 0x47#8 = 1; decide
theorem movCB : Statement (.movCB) := by
  change opcodeLength 0x48#8 = 1; decide
theorem movCC : Statement (.movCC) := by
  change opcodeLength 0x49#8 = 1; decide
theorem movCD : Statement (.movCD) := by
  change opcodeLength 0x4A#8 = 1; decide
theorem movCE : Statement (.movCE) := by
  change opcodeLength 0x4B#8 = 1; decide
theorem movCH : Statement (.movCH) := by
  change opcodeLength 0x4C#8 = 1; decide
theorem movCL : Statement (.movCL) := by
  change opcodeLength 0x4D#8 = 1; decide
theorem movCA : Statement (.movCA) := by
  change opcodeLength 0x4F#8 = 1; decide
theorem movDB : Statement (.movDB) := by
  change opcodeLength 0x50#8 = 1; decide
theorem movDC : Statement (.movDC) := by
  change opcodeLength 0x51#8 = 1; decide
theorem movDD : Statement (.movDD) := by
  change opcodeLength 0x52#8 = 1; decide
theorem movDE : Statement (.movDE) := by
  change opcodeLength 0x53#8 = 1; decide
theorem movDH : Statement (.movDH) := by
  change opcodeLength 0x54#8 = 1; decide
theorem movDL : Statement (.movDL) := by
  change opcodeLength 0x55#8 = 1; decide
theorem movDA : Statement (.movDA) := by
  change opcodeLength 0x57#8 = 1; decide
theorem movEB : Statement (.movEB) := by
  change opcodeLength 0x58#8 = 1; decide
theorem movEC : Statement (.movEC) := by
  change opcodeLength 0x59#8 = 1; decide
theorem movED : Statement (.movED) := by
  change opcodeLength 0x5A#8 = 1; decide
theorem movEE : Statement (.movEE) := by
  change opcodeLength 0x5B#8 = 1; decide
theorem movEH : Statement (.movEH) := by
  change opcodeLength 0x5C#8 = 1; decide
theorem movEL : Statement (.movEL) := by
  change opcodeLength 0x5D#8 = 1; decide
theorem movEA : Statement (.movEA) := by
  change opcodeLength 0x5F#8 = 1; decide
theorem movHB : Statement (.movHB) := by
  change opcodeLength 0x60#8 = 1; decide
theorem movHC : Statement (.movHC) := by
  change opcodeLength 0x61#8 = 1; decide
theorem movHD : Statement (.movHD) := by
  change opcodeLength 0x62#8 = 1; decide
theorem movHE : Statement (.movHE) := by
  change opcodeLength 0x63#8 = 1; decide
theorem movHH : Statement (.movHH) := by
  change opcodeLength 0x64#8 = 1; decide
theorem movHL : Statement (.movHL) := by
  change opcodeLength 0x65#8 = 1; decide
theorem movHA : Statement (.movHA) := by
  change opcodeLength 0x67#8 = 1; decide
theorem movLB : Statement (.movLB) := by
  change opcodeLength 0x68#8 = 1; decide
theorem movLC : Statement (.movLC) := by
  change opcodeLength 0x69#8 = 1; decide
theorem movLD : Statement (.movLD) := by
  change opcodeLength 0x6A#8 = 1; decide
theorem movLE : Statement (.movLE) := by
  change opcodeLength 0x6B#8 = 1; decide
theorem movLH : Statement (.movLH) := by
  change opcodeLength 0x6C#8 = 1; decide
theorem movLL : Statement (.movLL) := by
  change opcodeLength 0x6D#8 = 1; decide
theorem movLA : Statement (.movLA) := by
  change opcodeLength 0x6F#8 = 1; decide
theorem movAB : Statement (.movAB) := by
  change opcodeLength 0x78#8 = 1; decide
theorem movAC : Statement (.movAC) := by
  change opcodeLength 0x79#8 = 1; decide
theorem movAD : Statement (.movAD) := by
  change opcodeLength 0x7A#8 = 1; decide
theorem movAE : Statement (.movAE) := by
  change opcodeLength 0x7B#8 = 1; decide
theorem movAH : Statement (.movAH) := by
  change opcodeLength 0x7C#8 = 1; decide
theorem movAL : Statement (.movAL) := by
  change opcodeLength 0x7D#8 = 1; decide
theorem movAA : Statement (.movAA) := by
  change opcodeLength 0x7F#8 = 1; decide
theorem movMB : Statement (.movMB) := by
  change opcodeLength 0x70#8 = 1; decide
theorem movMC : Statement (.movMC) := by
  change opcodeLength 0x71#8 = 1; decide
theorem movMD : Statement (.movMD) := by
  change opcodeLength 0x72#8 = 1; decide
theorem movME : Statement (.movME) := by
  change opcodeLength 0x73#8 = 1; decide
theorem movMH : Statement (.movMH) := by
  change opcodeLength 0x74#8 = 1; decide
theorem movML : Statement (.movML) := by
  change opcodeLength 0x75#8 = 1; decide
theorem movMA : Statement (.movMA) := by
  change opcodeLength 0x77#8 = 1; decide
theorem movBM : Statement (.movBM) := by
  change opcodeLength 0x46#8 = 1; decide
theorem movCM : Statement (.movCM) := by
  change opcodeLength 0x4E#8 = 1; decide
theorem movDM : Statement (.movDM) := by
  change opcodeLength 0x56#8 = 1; decide
theorem movEM : Statement (.movEM) := by
  change opcodeLength 0x5E#8 = 1; decide
theorem movHM : Statement (.movHM) := by
  change opcodeLength 0x66#8 = 1; decide
theorem movLM : Statement (.movLM) := by
  change opcodeLength 0x6E#8 = 1; decide
theorem movAM : Statement (.movAM) := by
  change opcodeLength 0x7E#8 = 1; decide
theorem mviB (data : Byte) : Statement (.mviB data) := by
  change opcodeLength 0x06#8 = 2; decide
theorem mviC (data : Byte) : Statement (.mviC data) := by
  change opcodeLength 0x0E#8 = 2; decide
theorem mviD (data : Byte) : Statement (.mviD data) := by
  change opcodeLength 0x16#8 = 2; decide
theorem mviE (data : Byte) : Statement (.mviE data) := by
  change opcodeLength 0x1E#8 = 2; decide
theorem mviH (data : Byte) : Statement (.mviH data) := by
  change opcodeLength 0x26#8 = 2; decide
theorem mviL (data : Byte) : Statement (.mviL data) := by
  change opcodeLength 0x2E#8 = 2; decide
theorem mviA (data : Byte) : Statement (.mviA data) := by
  change opcodeLength 0x3E#8 = 2; decide
theorem mviM (data : Byte) : Statement (.mviM data) := by
  change opcodeLength 0x36#8 = 2; decide
theorem lxiB (data16 : Word) : Statement (.lxiB data16) := by
  change opcodeLength 0x01#8 = 3; decide
theorem lxiD (data16 : Word) : Statement (.lxiD data16) := by
  change opcodeLength 0x11#8 = 3; decide
theorem lxiH (data16 : Word) : Statement (.lxiH data16) := by
  change opcodeLength 0x21#8 = 3; decide
theorem lxiSP (data16 : Word) : Statement (.lxiSP data16) := by
  change opcodeLength 0x31#8 = 3; decide
theorem lda (addr : Word) : Statement (.lda addr) := by
  change opcodeLength 0x3A#8 = 3; decide
theorem sta (addr : Word) : Statement (.sta addr) := by
  change opcodeLength 0x32#8 = 3; decide
theorem lhld (addr : Word) : Statement (.lhld addr) := by
  change opcodeLength 0x2A#8 = 3; decide
theorem shld (addr : Word) : Statement (.shld addr) := by
  change opcodeLength 0x22#8 = 3; decide
theorem ldaxB : Statement (.ldaxB) := by
  change opcodeLength 0x0A#8 = 1; decide
theorem ldaxD : Statement (.ldaxD) := by
  change opcodeLength 0x1A#8 = 1; decide
theorem staxB : Statement (.staxB) := by
  change opcodeLength 0x02#8 = 1; decide
theorem staxD : Statement (.staxD) := by
  change opcodeLength 0x12#8 = 1; decide
theorem xchg : Statement (.xchg) := by
  change opcodeLength 0xEB#8 = 1; decide
theorem addB : Statement (.addB) := by
  change opcodeLength 0x80#8 = 1; decide
theorem addC : Statement (.addC) := by
  change opcodeLength 0x81#8 = 1; decide
theorem addD : Statement (.addD) := by
  change opcodeLength 0x82#8 = 1; decide
theorem addE : Statement (.addE) := by
  change opcodeLength 0x83#8 = 1; decide
theorem addH : Statement (.addH) := by
  change opcodeLength 0x84#8 = 1; decide
theorem addL : Statement (.addL) := by
  change opcodeLength 0x85#8 = 1; decide
theorem addA : Statement (.addA) := by
  change opcodeLength 0x87#8 = 1; decide
theorem addM : Statement (.addM) := by
  change opcodeLength 0x86#8 = 1; decide
theorem adi (data : Byte) : Statement (.adi data) := by
  change opcodeLength 0xC6#8 = 2; decide
theorem adcB : Statement (.adcB) := by
  change opcodeLength 0x88#8 = 1; decide
theorem adcC : Statement (.adcC) := by
  change opcodeLength 0x89#8 = 1; decide
theorem adcD : Statement (.adcD) := by
  change opcodeLength 0x8A#8 = 1; decide
theorem adcE : Statement (.adcE) := by
  change opcodeLength 0x8B#8 = 1; decide
theorem adcH : Statement (.adcH) := by
  change opcodeLength 0x8C#8 = 1; decide
theorem adcL : Statement (.adcL) := by
  change opcodeLength 0x8D#8 = 1; decide
theorem adcA : Statement (.adcA) := by
  change opcodeLength 0x8F#8 = 1; decide
theorem adcM : Statement (.adcM) := by
  change opcodeLength 0x8E#8 = 1; decide
theorem aci (data : Byte) : Statement (.aci data) := by
  change opcodeLength 0xCE#8 = 2; decide
theorem subB : Statement (.subB) := by
  change opcodeLength 0x90#8 = 1; decide
theorem subC : Statement (.subC) := by
  change opcodeLength 0x91#8 = 1; decide
theorem subD : Statement (.subD) := by
  change opcodeLength 0x92#8 = 1; decide
theorem subE : Statement (.subE) := by
  change opcodeLength 0x93#8 = 1; decide
theorem subH : Statement (.subH) := by
  change opcodeLength 0x94#8 = 1; decide
theorem subL : Statement (.subL) := by
  change opcodeLength 0x95#8 = 1; decide
theorem subA : Statement (.subA) := by
  change opcodeLength 0x97#8 = 1; decide
theorem subM : Statement (.subM) := by
  change opcodeLength 0x96#8 = 1; decide
theorem sui (data : Byte) : Statement (.sui data) := by
  change opcodeLength 0xD6#8 = 2; decide
theorem sbbB : Statement (.sbbB) := by
  change opcodeLength 0x98#8 = 1; decide
theorem sbbC : Statement (.sbbC) := by
  change opcodeLength 0x99#8 = 1; decide
theorem sbbD : Statement (.sbbD) := by
  change opcodeLength 0x9A#8 = 1; decide
theorem sbbE : Statement (.sbbE) := by
  change opcodeLength 0x9B#8 = 1; decide
theorem sbbH : Statement (.sbbH) := by
  change opcodeLength 0x9C#8 = 1; decide
theorem sbbL : Statement (.sbbL) := by
  change opcodeLength 0x9D#8 = 1; decide
theorem sbbA : Statement (.sbbA) := by
  change opcodeLength 0x9F#8 = 1; decide
theorem sbbM : Statement (.sbbM) := by
  change opcodeLength 0x9E#8 = 1; decide
theorem sbi (data : Byte) : Statement (.sbi data) := by
  change opcodeLength 0xDE#8 = 2; decide
theorem inrB : Statement (.inrB) := by
  change opcodeLength 0x04#8 = 1; decide
theorem inrC : Statement (.inrC) := by
  change opcodeLength 0x0C#8 = 1; decide
theorem inrD : Statement (.inrD) := by
  change opcodeLength 0x14#8 = 1; decide
theorem inrE : Statement (.inrE) := by
  change opcodeLength 0x1C#8 = 1; decide
theorem inrH : Statement (.inrH) := by
  change opcodeLength 0x24#8 = 1; decide
theorem inrL : Statement (.inrL) := by
  change opcodeLength 0x2C#8 = 1; decide
theorem inrA : Statement (.inrA) := by
  change opcodeLength 0x3C#8 = 1; decide
theorem inrM : Statement (.inrM) := by
  change opcodeLength 0x34#8 = 1; decide
theorem dcrB : Statement (.dcrB) := by
  change opcodeLength 0x05#8 = 1; decide
theorem dcrC : Statement (.dcrC) := by
  change opcodeLength 0x0D#8 = 1; decide
theorem dcrD : Statement (.dcrD) := by
  change opcodeLength 0x15#8 = 1; decide
theorem dcrE : Statement (.dcrE) := by
  change opcodeLength 0x1D#8 = 1; decide
theorem dcrH : Statement (.dcrH) := by
  change opcodeLength 0x25#8 = 1; decide
theorem dcrL : Statement (.dcrL) := by
  change opcodeLength 0x2D#8 = 1; decide
theorem dcrA : Statement (.dcrA) := by
  change opcodeLength 0x3D#8 = 1; decide
theorem dcrM : Statement (.dcrM) := by
  change opcodeLength 0x35#8 = 1; decide
theorem inxB : Statement (.inxB) := by
  change opcodeLength 0x03#8 = 1; decide
theorem inxD : Statement (.inxD) := by
  change opcodeLength 0x13#8 = 1; decide
theorem inxH : Statement (.inxH) := by
  change opcodeLength 0x23#8 = 1; decide
theorem inxSP : Statement (.inxSP) := by
  change opcodeLength 0x33#8 = 1; decide
theorem dcxB : Statement (.dcxB) := by
  change opcodeLength 0x0B#8 = 1; decide
theorem dcxD : Statement (.dcxD) := by
  change opcodeLength 0x1B#8 = 1; decide
theorem dcxH : Statement (.dcxH) := by
  change opcodeLength 0x2B#8 = 1; decide
theorem dcxSP : Statement (.dcxSP) := by
  change opcodeLength 0x3B#8 = 1; decide
theorem dadB : Statement (.dadB) := by
  change opcodeLength 0x09#8 = 1; decide
theorem dadD : Statement (.dadD) := by
  change opcodeLength 0x19#8 = 1; decide
theorem dadH : Statement (.dadH) := by
  change opcodeLength 0x29#8 = 1; decide
theorem dadSP : Statement (.dadSP) := by
  change opcodeLength 0x39#8 = 1; decide
theorem daa : Statement (.daa) := by
  change opcodeLength 0x27#8 = 1; decide
theorem anaB : Statement (.anaB) := by
  change opcodeLength 0xA0#8 = 1; decide
theorem anaC : Statement (.anaC) := by
  change opcodeLength 0xA1#8 = 1; decide
theorem anaD : Statement (.anaD) := by
  change opcodeLength 0xA2#8 = 1; decide
theorem anaE : Statement (.anaE) := by
  change opcodeLength 0xA3#8 = 1; decide
theorem anaH : Statement (.anaH) := by
  change opcodeLength 0xA4#8 = 1; decide
theorem anaL : Statement (.anaL) := by
  change opcodeLength 0xA5#8 = 1; decide
theorem anaA : Statement (.anaA) := by
  change opcodeLength 0xA7#8 = 1; decide
theorem anaM : Statement (.anaM) := by
  change opcodeLength 0xA6#8 = 1; decide
theorem ani (data : Byte) : Statement (.ani data) := by
  change opcodeLength 0xE6#8 = 2; decide
theorem xraB : Statement (.xraB) := by
  change opcodeLength 0xA8#8 = 1; decide
theorem xraC : Statement (.xraC) := by
  change opcodeLength 0xA9#8 = 1; decide
theorem xraD : Statement (.xraD) := by
  change opcodeLength 0xAA#8 = 1; decide
theorem xraE : Statement (.xraE) := by
  change opcodeLength 0xAB#8 = 1; decide
theorem xraH : Statement (.xraH) := by
  change opcodeLength 0xAC#8 = 1; decide
theorem xraL : Statement (.xraL) := by
  change opcodeLength 0xAD#8 = 1; decide
theorem xraA : Statement (.xraA) := by
  change opcodeLength 0xAF#8 = 1; decide
theorem xraM : Statement (.xraM) := by
  change opcodeLength 0xAE#8 = 1; decide
theorem xri (data : Byte) : Statement (.xri data) := by
  change opcodeLength 0xEE#8 = 2; decide
theorem oraB : Statement (.oraB) := by
  change opcodeLength 0xB0#8 = 1; decide
theorem oraC : Statement (.oraC) := by
  change opcodeLength 0xB1#8 = 1; decide
theorem oraD : Statement (.oraD) := by
  change opcodeLength 0xB2#8 = 1; decide
theorem oraE : Statement (.oraE) := by
  change opcodeLength 0xB3#8 = 1; decide
theorem oraH : Statement (.oraH) := by
  change opcodeLength 0xB4#8 = 1; decide
theorem oraL : Statement (.oraL) := by
  change opcodeLength 0xB5#8 = 1; decide
theorem oraA : Statement (.oraA) := by
  change opcodeLength 0xB7#8 = 1; decide
theorem oraM : Statement (.oraM) := by
  change opcodeLength 0xB6#8 = 1; decide
theorem ori (data : Byte) : Statement (.ori data) := by
  change opcodeLength 0xF6#8 = 2; decide
theorem cmpB : Statement (.cmpB) := by
  change opcodeLength 0xB8#8 = 1; decide
theorem cmpC : Statement (.cmpC) := by
  change opcodeLength 0xB9#8 = 1; decide
theorem cmpD : Statement (.cmpD) := by
  change opcodeLength 0xBA#8 = 1; decide
theorem cmpE : Statement (.cmpE) := by
  change opcodeLength 0xBB#8 = 1; decide
theorem cmpH : Statement (.cmpH) := by
  change opcodeLength 0xBC#8 = 1; decide
theorem cmpL : Statement (.cmpL) := by
  change opcodeLength 0xBD#8 = 1; decide
theorem cmpA : Statement (.cmpA) := by
  change opcodeLength 0xBF#8 = 1; decide
theorem cmpM : Statement (.cmpM) := by
  change opcodeLength 0xBE#8 = 1; decide
theorem cpi (data : Byte) : Statement (.cpi data) := by
  change opcodeLength 0xFE#8 = 2; decide
theorem rlc : Statement (.rlc) := by
  change opcodeLength 0x07#8 = 1; decide
theorem rrc : Statement (.rrc) := by
  change opcodeLength 0x0F#8 = 1; decide
theorem ral : Statement (.ral) := by
  change opcodeLength 0x17#8 = 1; decide
theorem rar : Statement (.rar) := by
  change opcodeLength 0x1F#8 = 1; decide
theorem cma : Statement (.cma) := by
  change opcodeLength 0x2F#8 = 1; decide
theorem cmc : Statement (.cmc) := by
  change opcodeLength 0x3F#8 = 1; decide
theorem stc : Statement (.stc) := by
  change opcodeLength 0x37#8 = 1; decide
theorem jmp (addr : Word) : Statement (.jmp addr) := by
  change opcodeLength 0xC3#8 = 3; decide
theorem jnz (addr : Word) : Statement (.jnz addr) := by
  change opcodeLength 0xC2#8 = 3; decide
theorem jz (addr : Word) : Statement (.jz addr) := by
  change opcodeLength 0xCA#8 = 3; decide
theorem jnc (addr : Word) : Statement (.jnc addr) := by
  change opcodeLength 0xD2#8 = 3; decide
theorem jc (addr : Word) : Statement (.jc addr) := by
  change opcodeLength 0xDA#8 = 3; decide
theorem jpo (addr : Word) : Statement (.jpo addr) := by
  change opcodeLength 0xE2#8 = 3; decide
theorem jpe (addr : Word) : Statement (.jpe addr) := by
  change opcodeLength 0xEA#8 = 3; decide
theorem jp (addr : Word) : Statement (.jp addr) := by
  change opcodeLength 0xF2#8 = 3; decide
theorem jm (addr : Word) : Statement (.jm addr) := by
  change opcodeLength 0xFA#8 = 3; decide
theorem call (addr : Word) : Statement (.call addr) := by
  change opcodeLength 0xCD#8 = 3; decide
theorem cnz (addr : Word) : Statement (.cnz addr) := by
  change opcodeLength 0xC4#8 = 3; decide
theorem cz (addr : Word) : Statement (.cz addr) := by
  change opcodeLength 0xCC#8 = 3; decide
theorem cnc (addr : Word) : Statement (.cnc addr) := by
  change opcodeLength 0xD4#8 = 3; decide
theorem cc (addr : Word) : Statement (.cc addr) := by
  change opcodeLength 0xDC#8 = 3; decide
theorem cpo (addr : Word) : Statement (.cpo addr) := by
  change opcodeLength 0xE4#8 = 3; decide
theorem cpe (addr : Word) : Statement (.cpe addr) := by
  change opcodeLength 0xEC#8 = 3; decide
theorem cp (addr : Word) : Statement (.cp addr) := by
  change opcodeLength 0xF4#8 = 3; decide
theorem cm (addr : Word) : Statement (.cm addr) := by
  change opcodeLength 0xFC#8 = 3; decide
theorem ret : Statement (.ret) := by
  change opcodeLength 0xC9#8 = 1; decide
theorem rnz : Statement (.rnz) := by
  change opcodeLength 0xC0#8 = 1; decide
theorem rz : Statement (.rz) := by
  change opcodeLength 0xC8#8 = 1; decide
theorem rnc : Statement (.rnc) := by
  change opcodeLength 0xD0#8 = 1; decide
theorem rc : Statement (.rc) := by
  change opcodeLength 0xD8#8 = 1; decide
theorem rpo : Statement (.rpo) := by
  change opcodeLength 0xE0#8 = 1; decide
theorem rpe : Statement (.rpe) := by
  change opcodeLength 0xE8#8 = 1; decide
theorem rp : Statement (.rp) := by
  change opcodeLength 0xF0#8 = 1; decide
theorem rm : Statement (.rm) := by
  change opcodeLength 0xF8#8 = 1; decide
theorem rst0 : Statement (.rst0) := by
  change opcodeLength 0xC7#8 = 1; decide
theorem rst1 : Statement (.rst1) := by
  change opcodeLength 0xCF#8 = 1; decide
theorem rst2 : Statement (.rst2) := by
  change opcodeLength 0xD7#8 = 1; decide
theorem rst3 : Statement (.rst3) := by
  change opcodeLength 0xDF#8 = 1; decide
theorem rst4 : Statement (.rst4) := by
  change opcodeLength 0xE7#8 = 1; decide
theorem rst5 : Statement (.rst5) := by
  change opcodeLength 0xEF#8 = 1; decide
theorem rst6 : Statement (.rst6) := by
  change opcodeLength 0xF7#8 = 1; decide
theorem rst7 : Statement (.rst7) := by
  change opcodeLength 0xFF#8 = 1; decide
theorem pchl : Statement (.pchl) := by
  change opcodeLength 0xE9#8 = 1; decide
theorem unlisted08 : Statement (.unlisted08) := by
  change opcodeLength 0x08#8 = 1; decide
theorem unlisted10 : Statement (.unlisted10) := by
  change opcodeLength 0x10#8 = 1; decide
theorem unlisted18 : Statement (.unlisted18) := by
  change opcodeLength 0x18#8 = 1; decide
theorem unlisted20 : Statement (.unlisted20) := by
  change opcodeLength 0x20#8 = 1; decide
theorem unlisted28 : Statement (.unlisted28) := by
  change opcodeLength 0x28#8 = 1; decide
theorem unlisted30 : Statement (.unlisted30) := by
  change opcodeLength 0x30#8 = 1; decide
theorem unlisted38 : Statement (.unlisted38) := by
  change opcodeLength 0x38#8 = 1; decide
theorem unlistedCB (addr : Word) : Statement (.unlistedCB addr) := by
  change opcodeLength 0xCB#8 = 3; decide
theorem unlistedD9 : Statement (.unlistedD9) := by
  change opcodeLength 0xD9#8 = 1; decide
theorem unlistedDD (addr : Word) : Statement (.unlistedDD addr) := by
  change opcodeLength 0xDD#8 = 3; decide
theorem unlistedED (addr : Word) : Statement (.unlistedED addr) := by
  change opcodeLength 0xED#8 = 3; decide
theorem unlistedFD (addr : Word) : Statement (.unlistedFD addr) := by
  change opcodeLength 0xFD#8 = 3; decide
theorem inPort (port : Byte) : Statement (.inPort port) := by
  change opcodeLength 0xDB#8 = 2; decide
theorem outPort (port : Byte) : Statement (.outPort port) := by
  change opcodeLength 0xD3#8 = 2; decide
theorem pushB : Statement (.pushB) := by
  change opcodeLength 0xC5#8 = 1; decide
theorem pushD : Statement (.pushD) := by
  change opcodeLength 0xD5#8 = 1; decide
theorem pushH : Statement (.pushH) := by
  change opcodeLength 0xE5#8 = 1; decide
theorem pushPSW : Statement (.pushPSW) := by
  change opcodeLength 0xF5#8 = 1; decide
theorem popB : Statement (.popB) := by
  change opcodeLength 0xC1#8 = 1; decide
theorem popD : Statement (.popD) := by
  change opcodeLength 0xD1#8 = 1; decide
theorem popH : Statement (.popH) := by
  change opcodeLength 0xE1#8 = 1; decide
theorem popPSW : Statement (.popPSW) := by
  change opcodeLength 0xF1#8 = 1; decide
theorem xthl : Statement (.xthl) := by
  change opcodeLength 0xE3#8 = 1; decide
theorem sphl : Statement (.sphl) := by
  change opcodeLength 0xF9#8 = 1; decide
theorem ei : Statement (.ei) := by
  change opcodeLength 0xFB#8 = 1; decide
theorem di : Statement (.di) := by
  change opcodeLength 0xF3#8 = 1; decide
theorem hlt : Statement (.hlt) := by
  change opcodeLength 0x76#8 = 1; decide
theorem nop : Statement (.nop) := by
  change opcodeLength 0x00#8 = 1; decide

end Sys2Proof.Laws.EncodedLength
end

