-- ==== Sys2Proof/Tests/Slice0.lean ====
section
/-! SUPPORT. The tests. Expected results are the spec's own: the encodings of 30_encoding.md, the vectors of
95_test_vectors.md, the examples of the rules. At the end, for each obligation with hypotheses, a state and operands that
meet them. -/

namespace Sys2Proof.Tests

open Sys2Proof Sys2Proof.Machine

/-! ### Well-formedness: each of the 12 unlisted rows is refused (30_encoding.md R92) -/

theorem test_wellFormed_refuses_unlisted :
    ([.unlisted08, .unlisted10, .unlisted18, .unlisted20, .unlisted28, .unlisted30, .unlisted38, .unlistedCB 0x1234#16,
      .unlistedD9, .unlistedDD 0x1234#16, .unlistedED 0x1234#16, .unlistedFD 0x1234#16] : List Instr).all
      (fun i => !i.wellFormed) = true := by decide

theorem test_wellFormed_accepts_listed :
    ([.nop, .hlt, .movMB, .lxiSP 0xFFFF#16, .sui 0x00#8, .inPort 0xFF#8, .popPSW, .rst7] : List Instr).all
      Instr.wellFormed = true := by decide

/-! ### Decoding: every first byte, row by row of the grid -/

/-- The 16 instructions of a row of the grid, each followed by the bytes 34 12. -/
def decodeRow (first : Nat) : List (Option Instr) :=
  (List.range 16).map fun k => decodeTableWord 24 (first + k + 0x123400)

/-- Row 0x of the grid of 30_encoding.md R88, with b2 = 34H and b3 = 12H. -/
theorem test_decode_row_0 : decodeRow 0x00 =
    [.nop, .lxiB 0x1234#16, .staxB, .inxB, .inrB, .dcrB, .mviB 0x34#8, .rlc, .unlisted08, .dadB, .ldaxB, .dcxB,
      .inrC, .dcrC, .mviC 0x34#8, .rrc].map some := by decide

/-- Row 1x of the grid of 30_encoding.md R88, with b2 = 34H and b3 = 12H. -/
theorem test_decode_row_1 : decodeRow 0x10 =
    [.unlisted10, .lxiD 0x1234#16, .staxD, .inxD, .inrD, .dcrD, .mviD 0x34#8, .ral, .unlisted18, .dadD, .ldaxD,
      .dcxD, .inrE, .dcrE, .mviE 0x34#8, .rar].map some := by decide

/-- Row 2x of the grid of 30_encoding.md R88, with b2 = 34H and b3 = 12H. -/
theorem test_decode_row_2 : decodeRow 0x20 =
    [.unlisted20, .lxiH 0x1234#16, .shld 0x1234#16, .inxH, .inrH, .dcrH, .mviH 0x34#8, .daa, .unlisted28, .dadH,
      .lhld 0x1234#16, .dcxH, .inrL, .dcrL, .mviL 0x34#8, .cma].map some := by decide

/-- Row 3x of the grid of 30_encoding.md R88, with b2 = 34H and b3 = 12H. -/
theorem test_decode_row_3 : decodeRow 0x30 =
    [.unlisted30, .lxiSP 0x1234#16, .sta 0x1234#16, .inxSP, .inrM, .dcrM, .mviM 0x34#8, .stc, .unlisted38, .dadSP,
      .lda 0x1234#16, .dcxSP, .inrA, .dcrA, .mviA 0x34#8, .cmc].map some := by decide

/-- Row 4x of the grid of 30_encoding.md R88, with b2 = 34H and b3 = 12H. -/
theorem test_decode_row_4 : decodeRow 0x40 =
    [.movBB, .movBC, .movBD, .movBE, .movBH, .movBL, .movBM, .movBA, .movCB, .movCC, .movCD, .movCE, .movCH,
      .movCL, .movCM, .movCA].map some := by decide

/-- Row 5x of the grid of 30_encoding.md R88, with b2 = 34H and b3 = 12H. -/
theorem test_decode_row_5 : decodeRow 0x50 =
    [.movDB, .movDC, .movDD, .movDE, .movDH, .movDL, .movDM, .movDA, .movEB, .movEC, .movED, .movEE, .movEH,
      .movEL, .movEM, .movEA].map some := by decide

/-- Row 6x of the grid of 30_encoding.md R88, with b2 = 34H and b3 = 12H. -/
theorem test_decode_row_6 : decodeRow 0x60 =
    [.movHB, .movHC, .movHD, .movHE, .movHH, .movHL, .movHM, .movHA, .movLB, .movLC, .movLD, .movLE, .movLH,
      .movLL, .movLM, .movLA].map some := by decide

/-- Row 7x of the grid of 30_encoding.md R88, with b2 = 34H and b3 = 12H. -/
theorem test_decode_row_7 : decodeRow 0x70 =
    [.movMB, .movMC, .movMD, .movME, .movMH, .movML, .hlt, .movMA, .movAB, .movAC, .movAD, .movAE, .movAH, .movAL,
      .movAM, .movAA].map some := by decide

/-- Row 8x of the grid of 30_encoding.md R88, with b2 = 34H and b3 = 12H. -/
theorem test_decode_row_8 : decodeRow 0x80 =
    [.addB, .addC, .addD, .addE, .addH, .addL, .addM, .addA, .adcB, .adcC, .adcD, .adcE, .adcH, .adcL, .adcM, .adcA].map some := by decide

/-- Row 9x of the grid of 30_encoding.md R88, with b2 = 34H and b3 = 12H. -/
theorem test_decode_row_9 : decodeRow 0x90 =
    [.subB, .subC, .subD, .subE, .subH, .subL, .subM, .subA, .sbbB, .sbbC, .sbbD, .sbbE, .sbbH, .sbbL, .sbbM, .sbbA].map some := by decide

/-- Row Ax of the grid of 30_encoding.md R88, with b2 = 34H and b3 = 12H. -/
theorem test_decode_row_A : decodeRow 0xA0 =
    [.anaB, .anaC, .anaD, .anaE, .anaH, .anaL, .anaM, .anaA, .xraB, .xraC, .xraD, .xraE, .xraH, .xraL, .xraM, .xraA].map some := by decide

/-- Row Bx of the grid of 30_encoding.md R88, with b2 = 34H and b3 = 12H. -/
theorem test_decode_row_B : decodeRow 0xB0 =
    [.oraB, .oraC, .oraD, .oraE, .oraH, .oraL, .oraM, .oraA, .cmpB, .cmpC, .cmpD, .cmpE, .cmpH, .cmpL, .cmpM, .cmpA].map some := by decide

/-- Row Cx of the grid of 30_encoding.md R88, with b2 = 34H and b3 = 12H. -/
theorem test_decode_row_C : decodeRow 0xC0 =
    [.rnz, .popB, .jnz 0x1234#16, .jmp 0x1234#16, .cnz 0x1234#16, .pushB, .adi 0x34#8, .rst0, .rz, .ret,
      .jz 0x1234#16, .unlistedCB 0x1234#16, .cz 0x1234#16, .call 0x1234#16, .aci 0x34#8, .rst1].map some := by decide

/-- Row Dx of the grid of 30_encoding.md R88, with b2 = 34H and b3 = 12H. -/
theorem test_decode_row_D : decodeRow 0xD0 =
    [.rnc, .popD, .jnc 0x1234#16, .outPort 0x34#8, .cnc 0x1234#16, .pushD, .sui 0x34#8, .rst2, .rc, .unlistedD9,
      .jc 0x1234#16, .inPort 0x34#8, .cc 0x1234#16, .unlistedDD 0x1234#16, .sbi 0x34#8, .rst3].map some := by decide

/-- Row Ex of the grid of 30_encoding.md R88, with b2 = 34H and b3 = 12H. -/
theorem test_decode_row_E : decodeRow 0xE0 =
    [.rpo, .popH, .jpo 0x1234#16, .xthl, .cpo 0x1234#16, .pushH, .ani 0x34#8, .rst4, .rpe, .pchl, .jpe 0x1234#16,
      .xchg, .cpe 0x1234#16, .unlistedED 0x1234#16, .xri 0x34#8, .rst5].map some := by decide

/-- Row Fx of the grid of 30_encoding.md R88, with b2 = 34H and b3 = 12H. -/
theorem test_decode_row_F : decodeRow 0xF0 =
    [.rp, .popPSW, .jp 0x1234#16, .di, .cp 0x1234#16, .pushPSW, .ori 0x34#8, .rst6, .rm, .sphl, .jm 0x1234#16, .ei,
      .cm 0x1234#16, .unlistedFD 0x1234#16, .cpi 0x34#8, .rst7].map some := by decide

/-- Operand bytes decide nothing about the instruction (95_test_vectors.md E1), and the bytes after it are left over. -/
theorem test_decode_leaves_the_rest : decode [0x3E#8, 0x76#8, 0x76#8] = .ok (.mviA 0x76#8, [0x76#8]) := rfl

/-- A first byte without its operand bytes is refused by name. -/
theorem test_decode_truncated : decode [0xC3#8, 0x00#8] = .error (.truncated 0xC3#8) ∧ decode [] = .error .noBytes :=
  ⟨rfl, rfl⟩

/-- The encodings of 95_test_vectors.md T9, B1 and S16, written by the encoder. -/
theorem test_encode : encode (.lxiSP 0xFFFE#16) = [0x31#8, 0xFE#8, 0xFF#8] ∧
    encode (.jmp 0x3E00#16) = [0xC3#8, 0x00#8, 0x3E#8] ∧ encode (.outPort 0x20#8) = [0xD3#8, 0x20#8] := by decide

/-! ### One instruction at a time -/

/-- A state to start from: the reset state at PC 0100H. -/
def base : State := { State.reset with pc := 0x0100#16 }

/-- Five flags, in the order S Z AC P CY of the vectors. -/
def bits (s z ac p cy : Nat) : Flags := { s := s == 1, z := z == 1, ac := ac == 1, p := p == 1, cy := cy == 1 }

/-- The instruction answers a next state, and the check holds of it. -/
def passes (i : Instr) (s : State) (check : State → Bool) : Bool :=
  match exec i s with
  | .next t => check t
  | .fault _ => false
  | .refused _ => false

/-- 95_test_vectors.md T1, T2. -/
theorem test_R110_mov :
    (passes .movBC { base with c := 0x5A#8 } fun t => t.b == 0x5A#8 && t.pc == 0x0101#16) ∧
    (passes .movAA { base with a := 0x33#8 } fun t => t.pc == 0x0101#16) := by decide

/-- 95_test_vectors.md T3. -/
theorem test_R111_mov :
    (passes .movME { base with h := 0x20#8, l := 0x10#8, e := 0x99#8, mem := [(0x2010, 0x00#8)] }
      fun t => t.peek 0x2010#16 == 0x99#8 && t.pc == 0x0101#16) := by decide

/-- 95_test_vectors.md T4, T5. -/
theorem test_R112_mov :
    (passes .movDM { base with h := 0xFF#8, l := 0xFF#8, mem := [(0xFFFF, 0x12#8)] }
      fun t => t.d == 0x12#8 && t.pc == 0x0101#16) ∧
    (passes .movHM { base with h := 0x12#8, l := 0x34#8, mem := [(0x1234, 0xAB#8)] }
      fun t => t.h == 0xAB#8 && t.pc == 0x0101#16) := by decide

/-- 95_test_vectors.md T6. -/
theorem test_R113_mvi :
    (passes (.mviL 0x7F#8) base fun t => t.l == 0x7F#8 && t.pc == 0x0102#16) := by decide

/-- 95_test_vectors.md T7. -/
theorem test_R114_mvi :
    (passes (.mviM 0xFF#8) { base with h := 0x80#8, mem := [(0x8000, 0x00#8)] }
      fun t => t.peek 0x8000#16 == 0xFF#8 && t.pc == 0x0102#16) := by decide

/-- 95_test_vectors.md T8, T9, T10. -/
theorem test_R115_lxi :
    (passes (.lxiB 0x1234#16) base fun t => t.b == 0x12#8 && t.c == 0x34#8 && t.pc == 0x0103#16) ∧
    (passes (.lxiSP 0xFFFE#16) base fun t => t.sp == 0xFFFE#16 && t.pc == 0x0103#16) ∧
    (passes (.lxiH 0x1234#16) { base with pc := 0xFFFE#16 }
      fun t => t.h == 0x12#8 && t.l == 0x34#8 && t.pc == 0x0001#16) := by decide

/-- 95_test_vectors.md T11. -/
theorem test_R116_lda :
    (passes (.lda 0x3000#16) { base with mem := [(0x3000, 0x77#8)] }
      fun t => t.a == 0x77#8 && t.pc == 0x0103#16) := by decide

/-- 95_test_vectors.md T12. -/
theorem test_R117_sta :
    (passes (.sta 0xFFFF#16) { base with a := 0x5A#8, mem := [(0xFFFF, 0x00#8)] }
      fun t => t.peek 0xFFFF#16 == 0x5A#8 && t.pc == 0x0103#16) := by decide

/-- 95_test_vectors.md T13. -/
theorem test_R118_lhld :
    (passes (.lhld 0xFFFF#16) { base with mem := [(0x0000, 0xAB#8), (0xFFFF, 0xCD#8)] }
      fun t => t.h == 0xAB#8 && t.l == 0xCD#8 && t.pc == 0x0103#16) := by decide

/-- 95_test_vectors.md T14. -/
theorem test_R119_shld :
    (passes (.shld 0x4000#16) { base with h := 0xAE#8, l := 0x29#8, mem := [(0x4000, 0x00#8), (0x4001, 0x00#8)] }
      fun t => t.peek 0x4000#16 == 0x29#8 && t.peek 0x4001#16 == 0xAE#8 && t.pc == 0x0103#16) := by decide

/-- 95_test_vectors.md T15, T16. -/
theorem test_R120_ldax :
    (passes .ldaxB { base with b := 0x20#8, c := 0x50#8, mem := [(0x2050, 0x9F#8)] }
      fun t => t.a == 0x9F#8 && t.pc == 0x0101#16) ∧
    (passes .ldaxD { base with d := 0x93#8, e := 0x8B#8, mem := [(0x938B, 0x11#8)] }
      fun t => t.a == 0x11#8 && t.pc == 0x0101#16) := by decide

/-- 95_test_vectors.md T17, T18. -/
theorem test_R121_stax :
    (passes .staxB { base with b := 0x3F#8, c := 0x16#8, a := 0x42#8, mem := [(0x3F16, 0x00#8)] }
      fun t => t.peek 0x3F16#16 == 0x42#8 && t.pc == 0x0101#16) ∧
    (passes .staxD { base with a := 0xE7#8, mem := [(0x0000, 0x00#8)] }
      fun t => t.peek 0x0000#16 == 0xE7#8 && t.pc == 0x0101#16) := by decide

/-- 95_test_vectors.md T19. -/
theorem test_R122_xchg :
    (passes .xchg { base with d := 0x33#8, e := 0x55#8, l := 0xFF#8 }
      fun t => t.d == 0x00#8 && t.e == 0xFF#8 && t.h == 0x33#8 && t.l == 0x55#8 && t.pc == 0x0101#16) := by decide

/-- 95_test_vectors.md A1, A2. -/
theorem test_R132_add :
    (passes .addB { base with a := 0x6C#8, b := 0x2E#8 }
      fun t => t.a == 0x9A#8 && t.pc == 0x0101#16 && t.flags == bits 1 0 1 1 0) ∧
    (passes .addA { base with a := 0x80#8 }
      fun t => t.a == 0x00#8 && t.pc == 0x0101#16 && t.flags == bits 0 1 0 1 1) := by decide

/-- 95_test_vectors.md A3. -/
theorem test_R133_add :
    (passes .addM { base with a := 0x0F#8, h := 0x20#8, mem := [(0x2000, 0x01#8)] }
      fun t => t.a == 0x10#8 && t.pc == 0x0101#16 && t.flags == bits 0 0 1 0 0) := by decide

/-- 95_test_vectors.md A4, A5. -/
theorem test_R134_adi :
    (passes (.adi 0x42#8) { base with a := 0x14#8 }
      fun t => t.a == 0x56#8 && t.pc == 0x0102#16 && t.flags == bits 0 0 0 1 0) ∧
    (passes (.adi 0x01#8) { base with a := 0xFF#8 }
      fun t => t.a == 0x00#8 && t.pc == 0x0102#16 && t.flags == bits 0 1 1 1 1) := by decide

/-- 95_test_vectors.md A6, A7. -/
theorem test_R135_adc :
    (passes .adcC { base with a := 0x3D#8, c := 0x42#8, flags := bits 0 0 0 0 1 }
      fun t => t.a == 0x80#8 && t.pc == 0x0101#16 && t.flags == bits 1 0 1 0 0) ∧
    (passes .adcC { base with a := 0x3D#8, c := 0x42#8 }
      fun t => t.a == 0x7F#8 && t.pc == 0x0101#16 && t.flags == bits 0 0 0 0 0) := by decide

/-- 95_test_vectors.md A8. -/
theorem test_R136_adc :
    (passes .adcM { base with a := 0xFF#8, h := 0x20#8, flags := bits 0 0 0 0 1, mem := [(0x2000, 0x00#8)] }
      fun t => t.a == 0x00#8 && t.pc == 0x0101#16 && t.flags == bits 0 1 1 1 1) := by decide

/-- 95_test_vectors.md A9. -/
theorem test_R137_aci :
    (passes (.aci 0xBE#8) { base with a := 0x56#8, flags := bits 0 0 0 0 1 }
      fun t => t.a == 0x15#8 && t.pc == 0x0102#16 && t.flags == bits 0 0 1 0 1) := by decide

/-- 95_test_vectors.md A10, A11. -/
theorem test_R138_sub :
    (passes .subA { base with a := 0x3E#8, flags := bits 0 0 0 0 1 }
      fun t => t.a == 0x00#8 && t.pc == 0x0101#16 && t.flags == bits 0 1 1 1 0) ∧
    (passes .subB { base with b := 0x01#8 }
      fun t => t.a == 0xFF#8 && t.pc == 0x0101#16 && t.flags == bits 1 0 0 1 1) := by decide

/-- 95_test_vectors.md A12. -/
theorem test_R139_sub :
    (passes .subM { base with a := 0x50#8, h := 0x20#8, mem := [(0x2000, 0x0F#8)] }
      fun t => t.a == 0x41#8 && t.pc == 0x0101#16 && t.flags == bits 0 0 0 1 0) := by decide

/-- 95_test_vectors.md A13, A14. -/
theorem test_R140_sui :
    (passes (.sui 0x01#8) base fun t => t.a == 0xFF#8 && t.pc == 0x0102#16 && t.flags == bits 1 0 0 1 1) ∧
    (passes (.sui 0x80#8) { base with a := 0x80#8 }
      fun t => t.a == 0x00#8 && t.pc == 0x0102#16 && t.flags == bits 0 1 1 1 0) := by decide

/-- 95_test_vectors.md A15, A16. -/
theorem test_R141_sbb :
    (passes .sbbL { base with a := 0x04#8, l := 0x02#8, flags := bits 0 0 0 0 1 }
      fun t => t.a == 0x01#8 && t.pc == 0x0101#16 && t.flags == bits 0 0 1 0 0) ∧
    (passes .sbbB { base with b := 0xFF#8, flags := bits 0 0 0 0 1 }
      fun t => t.pc == 0x0101#16 && t.flags == bits 0 1 0 1 1) := by decide

/-- 95_test_vectors.md A17. -/
theorem test_R142_sbb :
    (passes .sbbM { base with a := 0x10#8, h := 0x20#8, mem := [(0x2000, 0x01#8)] }
      fun t => t.a == 0x0F#8 && t.pc == 0x0101#16 && t.flags == bits 0 0 0 1 0) := by decide

/-- 95_test_vectors.md A18, A19. -/
theorem test_R143_sbi :
    (passes (.sbi 0x01#8) base fun t => t.a == 0xFF#8 && t.pc == 0x0102#16 && t.flags == bits 1 0 0 1 1) ∧
    (passes (.sbi 0x01#8) { base with flags := bits 0 0 0 0 1 }
      fun t => t.a == 0xFE#8 && t.pc == 0x0102#16 && t.flags == bits 1 0 0 0 1) := by decide

/-- 95_test_vectors.md A20, A21, A22. -/
theorem test_R144_inr :
    (passes .inrC { base with c := 0x99#8, flags := bits 0 0 0 0 1 }
      fun t => t.c == 0x9A#8 && t.pc == 0x0101#16 && t.flags == bits 1 0 0 1 1) ∧
    (passes .inrA { base with a := 0xFF#8 }
      fun t => t.a == 0x00#8 && t.pc == 0x0101#16 && t.flags == bits 0 1 1 1 0) ∧
    (passes .inrB { base with b := 0x7F#8 }
      fun t => t.b == 0x80#8 && t.pc == 0x0101#16 && t.flags == bits 1 0 1 0 0) := by decide

/-- 95_test_vectors.md A23. -/
theorem test_R145_inr :
    (passes .inrM { base with h := 0x20#8, mem := [(0x2000, 0x0F#8)] }
      fun t => t.peek 0x2000#16 == 0x10#8 && t.pc == 0x0101#16 && t.flags == bits 0 0 1 0 0) := by decide

/-- 95_test_vectors.md A24, A25, A26. -/
theorem test_R146_dcr :
    (passes .dcrA base fun t => t.a == 0xFF#8 && t.pc == 0x0101#16 && t.flags == bits 1 0 0 1 0) ∧
    (passes .dcrB { base with b := 0x01#8, flags := bits 0 0 0 0 1 }
      fun t => t.b == 0x00#8 && t.pc == 0x0101#16 && t.flags == bits 0 1 1 1 1) ∧
    (passes .dcrE { base with e := 0x10#8 }
      fun t => t.e == 0x0F#8 && t.pc == 0x0101#16 && t.flags == bits 0 0 0 1 0) := by decide

/-- 95_test_vectors.md A27. -/
theorem test_R147_dcr :
    (passes .dcrM { base with h := 0x3A#8, l := 0x7C#8, mem := [(0x3A7C, 0x40#8)] }
      fun t => t.peek 0x3A7C#16 == 0x3F#8 && t.pc == 0x0101#16 && t.flags == bits 0 0 0 1 0) := by decide

/-- 95_test_vectors.md A28, A29, A30. -/
theorem test_R148_inx :
    (passes .inxB { base with b := 0xFF#8, c := 0xFF#8 }
      fun t => t.b == 0x00#8 && t.c == 0x00#8 && t.pc == 0x0101#16 && t.flags == bits 0 0 0 0 0) ∧
    (passes .inxD { base with d := 0x38#8, e := 0xFF#8 }
      fun t => t.d == 0x39#8 && t.e == 0x00#8 && t.pc == 0x0101#16) ∧
    (passes .inxSP { base with sp := 0xFFFF#16 } fun t => t.sp == 0x0000#16 && t.pc == 0x0101#16) := by decide

/-- 95_test_vectors.md A31, A32, A33. -/
theorem test_R149_dcx :
    (passes .dcxH base
      fun t => t.h == 0xFF#8 && t.l == 0xFF#8 && t.pc == 0x0101#16 && t.flags == bits 0 0 0 0 0) ∧
    (passes .dcxB { base with b := 0x98#8 } fun t => t.b == 0x97#8 && t.c == 0xFF#8 && t.pc == 0x0101#16) ∧
    (passes .dcxSP base fun t => t.sp == 0xFFFF#16 && t.pc == 0x0101#16) := by decide

/-- 95_test_vectors.md A34, A35, A36, A37. -/
theorem test_R150_dad :
    (passes .dadB { base with b := 0x33#8, c := 0x9F#8, h := 0xA1#8, l := 0x7B#8, flags := bits 1 1 1 1 1 }
      fun t => t.h == 0xD5#8 && t.l == 0x1A#8 && t.pc == 0x0101#16 && t.flags == bits 1 1 1 1 0) ∧
    (passes .dadH { base with h := 0x80#8 } fun t => t.h == 0x00#8 && t.pc == 0x0101#16 && t.flags.cy) ∧
    (passes .dadD { base with e := 0x01#8, h := 0xFF#8, l := 0xFF#8 }
      fun t => t.h == 0x00#8 && t.l == 0x00#8 && t.pc == 0x0101#16 && t.flags.cy) ∧
    (passes .dadSP { base with sp := 0x1000#16, h := 0x02#8, l := 0x34#8, flags := bits 0 0 0 0 1 }
      fun t => t.h == 0x12#8 && t.pc == 0x0101#16 && !t.flags.cy) := by decide

/-- 95_test_vectors.md A38, A39, A40, A41, A42, A43, A44, A45, A46. -/
theorem test_R151_daa :
    (passes .daa { base with a := 0x9B#8 }
      fun t => t.a == 0x01#8 && t.pc == 0x0101#16 && t.flags == bits 0 0 1 0 1) ∧
    (passes .daa { base with a := 0x45#8 } fun t => t.pc == 0x0101#16 && t.flags == bits 0 0 0 0 0) ∧
    (passes .daa { base with a := 0x9A#8 }
      fun t => t.a == 0x00#8 && t.pc == 0x0101#16 && t.flags == bits 0 1 1 1 1) ∧
    (passes .daa { base with a := 0xFA#8 }
      fun t => t.a == 0x60#8 && t.pc == 0x0101#16 && t.flags == bits 0 0 1 1 1) ∧
    (passes .daa { base with a := 0x15#8, flags := bits 0 0 0 0 1 }
      fun t => t.a == 0x75#8 && t.pc == 0x0101#16 && t.flags == bits 0 0 0 0 1) ∧
    (passes .daa { base with a := 0x12#8, flags := bits 0 0 1 0 0 }
      fun t => t.a == 0x18#8 && t.pc == 0x0101#16 && t.flags == bits 0 0 0 1 0) ∧
    (passes .daa { base with a := 0x94#8, flags := bits 0 0 1 0 0 }
      fun t => t.a == 0x9A#8 && t.pc == 0x0101#16 && t.flags == bits 1 0 0 1 0) ∧
    (passes .daa { base with a := 0xA0#8 }
      fun t => t.a == 0x00#8 && t.pc == 0x0101#16 && t.flags == bits 0 1 0 1 1) ∧
    (passes .daa { base with flags := bits 0 0 1 0 1 }
      fun t => t.a == 0x66#8 && t.pc == 0x0101#16 && t.flags == bits 0 0 0 1 1) := by decide

/-- 95_test_vectors.md L1, L2. -/
theorem test_R161_ana :
    (passes .anaC { base with a := 0xFC#8, c := 0x0F#8, flags := bits 0 0 0 0 1, launch := { anaAc := .orBit3 } }
      fun t => t.a == 0x0C#8 && t.pc == 0x0101#16 && t.flags == bits 0 0 1 1 0) ∧
    (passes .anaA { base with flags := bits 0 0 0 0 1, launch := { anaAc := .orBit3 } }
      fun t => t.pc == 0x0101#16 && t.flags == bits 0 1 0 1 0) := by decide

/-- 95_test_vectors.md L3. -/
theorem test_R162_ana :
    (passes .anaM { base with a := 0xF0#8, h := 0x20#8,
                              mem := [(0x2000, 0x3C#8)], launch := { anaAc := .orBit3 } }
      fun t => t.a == 0x30#8 && t.pc == 0x0101#16 && t.flags == bits 0 0 1 1 0) := by decide

/-- 95_test_vectors.md L4. -/
theorem test_R163_ani :
    (passes (.ani 0x0F#8) { base with a := 0x3A#8, flags := bits 0 0 1 0 1 }
      fun t => t.a == 0x0A#8 && t.pc == 0x0102#16 && t.flags == bits 0 0 0 1 0) := by decide

/-- 95_test_vectors.md L5, L6. -/
theorem test_R164_xra :
    (passes .xraA { base with a := 0x5C#8, flags := bits 0 0 1 0 1 }
      fun t => t.a == 0x00#8 && t.pc == 0x0101#16 && t.flags == bits 0 1 0 1 0) ∧
    (passes .xraB { base with a := 0xFF#8, b := 0x0F#8, flags := bits 0 0 0 0 1 }
      fun t => t.a == 0xF0#8 && t.pc == 0x0101#16 && t.flags == bits 1 0 0 1 0) := by decide

/-- 95_test_vectors.md L7. -/
theorem test_R165_xra :
    (passes .xraM { base with a := 0x5C#8, h := 0x20#8, mem := [(0x2000, 0x78#8)] }
      fun t => t.a == 0x24#8 && t.pc == 0x0101#16 && t.flags == bits 0 0 0 1 0) := by decide

/-- 95_test_vectors.md L8. -/
theorem test_R166_xri :
    (passes (.xri 0x81#8) { base with a := 0x3B#8 }
      fun t => t.a == 0xBA#8 && t.pc == 0x0102#16 && t.flags == bits 1 0 0 0 0) := by decide

/-- 95_test_vectors.md L9, L10. -/
theorem test_R167_ora :
    (passes .oraC { base with a := 0x33#8, c := 0x0F#8, flags := bits 0 0 1 0 1 }
      fun t => t.a == 0x3F#8 && t.pc == 0x0101#16 && t.flags == bits 0 0 0 1 0) ∧
    (passes .oraA { base with flags := bits 0 0 0 0 1 }
      fun t => t.pc == 0x0101#16 && t.flags == bits 0 1 0 1 0) := by decide

/-- 95_test_vectors.md L11. -/
theorem test_R168_ora :
    (passes .oraM { base with a := 0x80#8, h := 0x20#8, mem := [(0x2000, 0x01#8)] }
      fun t => t.a == 0x81#8 && t.pc == 0x0101#16 && t.flags == bits 1 0 0 1 0) := by decide

/-- 95_test_vectors.md L12. -/
theorem test_R169_ori :
    (passes (.ori 0x0F#8) { base with a := 0xB5#8 }
      fun t => t.a == 0xBF#8 && t.pc == 0x0102#16 && t.flags == bits 1 0 0 0 0) := by decide

/-- 95_test_vectors.md L13, L14, L15, L16. -/
theorem test_R170_cmp :
    (passes .cmpE { base with a := 0x0A#8, e := 0x05#8 }
      fun t => t.pc == 0x0101#16 && t.flags == bits 0 0 1 1 0) ∧
    (passes .cmpE { base with a := 0x02#8, e := 0x05#8 }
      fun t => t.pc == 0x0101#16 && t.flags == bits 1 0 0 0 1) ∧
    (passes .cmpB { base with a := 0x77#8, b := 0x77#8 }
      fun t => t.pc == 0x0101#16 && t.flags == bits 0 1 1 1 0) ∧
    (passes .cmpE { base with a := 0xE5#8, e := 0x05#8 }
      fun t => t.pc == 0x0101#16 && t.flags == bits 1 0 1 0 0) := by decide

/-- 95_test_vectors.md L17. -/
theorem test_R171_cmp :
    (passes .cmpM { base with h := 0x20#8, mem := [(0x2000, 0x01#8)] }
      fun t => t.pc == 0x0101#16 && t.flags == bits 1 0 0 1 1) := by decide

/-- 95_test_vectors.md L18, L19. -/
theorem test_R172_cpi :
    (passes (.cpi 0x40#8) { base with a := 0x4A#8 } fun t => t.pc == 0x0102#16 && t.flags == bits 0 0 1 1 0) ∧
    (passes (.cpi 0x00#8) { base with flags := bits 0 0 0 0 1 }
      fun t => t.pc == 0x0102#16 && t.flags == bits 0 1 1 1 0) := by decide

/-- 95_test_vectors.md L20. -/
theorem test_R173_rlc :
    (passes .rlc { base with a := 0xF2#8 }
      fun t => t.a == 0xE5#8 && t.pc == 0x0101#16 && t.flags == bits 0 0 0 0 1) := by decide

/-- 95_test_vectors.md L21, L22. -/
theorem test_R174_rrc :
    (passes .rrc { base with a := 0xF2#8, flags := bits 0 0 0 0 1 }
      fun t => t.a == 0x79#8 && t.pc == 0x0101#16 && !t.flags.cy) ∧
    (passes .rrc { base with a := 0x01#8 } fun t => t.a == 0x80#8 && t.pc == 0x0101#16 && t.flags.cy) := by decide

/-- 95_test_vectors.md L23, L24. -/
theorem test_R175_ral :
    (passes .ral { base with a := 0xB5#8 } fun t => t.a == 0x6A#8 && t.pc == 0x0101#16 && t.flags.cy) ∧
    (passes .ral { base with flags := bits 0 0 0 0 1 }
      fun t => t.a == 0x01#8 && t.pc == 0x0101#16 && !t.flags.cy) := by decide

/-- 95_test_vectors.md L25, L26. -/
theorem test_R176_rar :
    (passes .rar { base with a := 0x6A#8, flags := bits 0 0 0 0 1 }
      fun t => t.a == 0xB5#8 && t.pc == 0x0101#16 && !t.flags.cy) ∧
    (passes .rar { base with a := 0x01#8 } fun t => t.a == 0x00#8 && t.pc == 0x0101#16 && t.flags.cy) := by decide

/-- 95_test_vectors.md L27. -/
theorem test_R177_cma :
    (passes .cma { base with a := 0x51#8, flags := bits 0 1 0 1 0 }
      fun t => t.a == 0xAE#8 && t.pc == 0x0101#16 && t.flags == bits 0 1 0 1 0) := by decide

/-- 95_test_vectors.md L28, L29. -/
theorem test_R178_cmc :
    (passes .cmc base fun t => t.pc == 0x0101#16 && t.flags.cy) ∧
    (passes .cmc { base with flags := bits 0 0 0 0 1 } fun t => t.pc == 0x0101#16 && !t.flags.cy) := by decide

/-- 95_test_vectors.md L30, L31. -/
theorem test_R179_stc :
    (passes .stc base fun t => t.pc == 0x0101#16 && t.flags.cy) ∧
    (passes .stc { base with flags := bits 0 0 0 0 1 } fun t => t.pc == 0x0101#16 && t.flags.cy) := by decide

/-- 95_test_vectors.md B1. -/
theorem test_R190_jmp :
    (passes (.jmp 0x3E00#16) base fun t => t.pc == 0x3E00#16) := by decide

/-- 95_test_vectors.md B2, B3, B4, B5, B6, B7, B8, B9, B10, B11, B12, B13, B14, B15, B16, B17. -/
theorem test_R191_jnz_jz_jnc :
    (passes (.jnz 0x2000#16) base fun t => t.pc == 0x2000#16) ∧
    (passes (.jnz 0x2000#16) { base with flags := bits 0 1 0 0 0 } fun t => t.pc == 0x0103#16) ∧
    (passes (.jz 0x2000#16) { base with flags := bits 0 1 0 0 0 } fun t => t.pc == 0x2000#16) ∧
    (passes (.jz 0x2000#16) base fun t => t.pc == 0x0103#16) ∧
    (passes (.jnc 0x2000#16) base fun t => t.pc == 0x2000#16) ∧
    (passes (.jnc 0x2000#16) { base with flags := bits 0 0 0 0 1 } fun t => t.pc == 0x0103#16) ∧
    (passes (.jc 0x2000#16) { base with flags := bits 0 0 0 0 1 } fun t => t.pc == 0x2000#16) ∧
    (passes (.jc 0x2000#16) base fun t => t.pc == 0x0103#16) ∧
    (passes (.jpo 0x2000#16) base fun t => t.pc == 0x2000#16) ∧
    (passes (.jpo 0x2000#16) { base with flags := bits 0 0 0 1 0 } fun t => t.pc == 0x0103#16) ∧
    (passes (.jpe 0x2000#16) { base with flags := bits 0 0 0 1 0 } fun t => t.pc == 0x2000#16) ∧
    (passes (.jpe 0x2000#16) base fun t => t.pc == 0x0103#16) ∧
    (passes (.jp 0x2000#16) base fun t => t.pc == 0x2000#16) ∧
    (passes (.jp 0x2000#16) { base with flags := bits 1 0 0 0 0 } fun t => t.pc == 0x0103#16) ∧
    (passes (.jm 0x2000#16) { base with flags := bits 1 0 0 0 0 } fun t => t.pc == 0x2000#16) ∧
    (passes (.jm 0x2000#16) base fun t => t.pc == 0x0103#16) := by decide

/-- 95_test_vectors.md B18, B19. -/
theorem test_R192_call :
    (passes (.call 0x2000#16) { base with pc := 0x1234#16, sp := 0x3000#16 }
      fun t => t.sp == 0x2FFE#16 && t.peek 0x2FFE#16 == 0x37#8 && t.peek 0x2FFF#16 == 0x12#8 &&
        t.pc == 0x2000#16) ∧
    (passes (.call 0x5060#16) { base with pc := 0xFFFE#16, sp := 0x0001#16 }
      fun t => t.sp == 0xFFFF#16 && t.peek 0x0000#16 == 0x00#8 && t.peek 0xFFFF#16 == 0x01#8 &&
        t.pc == 0x5060#16) := by decide

/-- 95_test_vectors.md B20, B21, B22, B23. -/
theorem test_R193_cnz_cpe_cm :
    (passes (.cnz 0x2000#16) { base with sp := 0x3000#16, flags := bits 0 1 0 0 0 } fun t => t.pc == 0x0103#16) ∧
    (passes (.cnz 0x2000#16) { base with sp := 0x3000#16 }
      fun t => t.sp == 0x2FFE#16 && t.peek 0x2FFE#16 == 0x03#8 && t.peek 0x2FFF#16 == 0x01#8 &&
        t.pc == 0x2000#16) ∧
    (passes (.cpe 0x4000#16) { base with sp := 0x3000#16, flags := bits 0 0 0 1 0 }
      fun t => t.sp == 0x2FFE#16 && t.peek 0x2FFE#16 == 0x03#8 && t.peek 0x2FFF#16 == 0x01#8 &&
        t.pc == 0x4000#16) ∧
    (passes (.cm 0x4000#16) { base with sp := 0x3000#16 } fun t => t.pc == 0x0103#16) := by decide

/-- 95_test_vectors.md B24, B25. -/
theorem test_R194_ret :
    (passes .ret { base with sp := 0x2FFE#16, mem := [(0x2FFE, 0x37#8), (0x2FFF, 0x12#8)] }
      fun t => t.sp == 0x3000#16 && t.pc == 0x1237#16) ∧
    (passes .ret { base with sp := 0xFFFF#16, mem := [(0x0000, 0x80#8), (0xFFFF, 0x00#8)] }
      fun t => t.sp == 0x0001#16 && t.pc == 0x8000#16) := by decide

/-- 95_test_vectors.md B26, B27, B28. -/
theorem test_R195_rz_rc_rpo :
    (passes .rz { base with sp := 0x2FFE#16, mem := [(0x2FFE, 0x37#8), (0x2FFF, 0x12#8)] }
      fun t => t.pc == 0x0101#16) ∧
    (passes .rc { base with sp := 0x2FFE#16, flags := bits 0 0 0 0 1,
                            mem := [(0x2FFE, 0x37#8), (0x2FFF, 0x12#8)] }
      fun t => t.sp == 0x3000#16 && t.pc == 0x1237#16) ∧
    (passes .rpo { base with sp := 0x2FFE#16, mem := [(0x2FFE, 0x37#8), (0x2FFF, 0x12#8)] }
      fun t => t.sp == 0x3000#16 && t.pc == 0x1237#16) := by decide

/-- 95_test_vectors.md B29, B30, B31. -/
theorem test_R196_rst :
    (passes .rst5 { base with pc := 0x4321#16, sp := 0x8000#16 }
      fun t => t.sp == 0x7FFE#16 && t.peek 0x7FFE#16 == 0x22#8 && t.peek 0x7FFF#16 == 0x43#8 &&
        t.pc == 0x0028#16) ∧
    (passes .rst0 { base with pc := 0x00FF#16, sp := 0x0002#16 }
      fun t => t.sp == 0x0000#16 && t.peek 0x0000#16 == 0x00#8 && t.peek 0x0001#16 == 0x01#8 &&
        t.pc == 0x0000#16) ∧
    (passes .rst7 { base with pc := 0xFFFF#16, sp := 0x8000#16 }
      fun t => t.sp == 0x7FFE#16 && t.peek 0x7FFE#16 == 0x00#8 && t.peek 0x7FFF#16 == 0x00#8 &&
        t.pc == 0x0038#16) := by decide

/-- 95_test_vectors.md B32. -/
theorem test_R197_pchl :
    (passes .pchl { base with h := 0x41#8, l := 0x3E#8 } fun t => t.pc == 0x413E#16) := by decide

/-- 95_test_vectors.md S1, S2, S3. -/
theorem test_R210_push :
    (passes .pushB { base with b := 0x12#8, c := 0x34#8, sp := 0x3000#16 }
      fun t => t.sp == 0x2FFE#16 && t.peek 0x2FFE#16 == 0x34#8 && t.peek 0x2FFF#16 == 0x12#8 &&
        t.pc == 0x0101#16) ∧
    (passes .pushD { base with d := 0x8F#8, e := 0x9D#8, sp := 0x3A2C#16 }
      fun t => t.sp == 0x3A2A#16 && t.peek 0x3A2A#16 == 0x9D#8 && t.peek 0x3A2B#16 == 0x8F#8 &&
        t.pc == 0x0101#16) ∧
    (passes .pushH { base with h := 0xBE#8, l := 0xEF#8, sp := 0x0001#16 }
      fun t => t.sp == 0xFFFF#16 && t.peek 0x0000#16 == 0xBE#8 && t.peek 0xFFFF#16 == 0xEF#8 &&
        t.pc == 0x0101#16) := by decide

/-- 95_test_vectors.md S4, S5, S6, S7. -/
theorem test_R211_push :
    (passes .pushPSW { base with a := 0x1F#8, sp := 0x502A#16, flags := bits 0 1 0 1 1 }
      fun t => t.sp == 0x5028#16 && t.peek 0x5028#16 == 0x47#8 && t.peek 0x5029#16 == 0x1F#8 &&
        t.pc == 0x0101#16) ∧
    (passes .pushPSW { base with a := 0xAA#8, sp := 0x0001#16, flags := bits 1 0 1 0 0 }
      fun t => t.sp == 0xFFFF#16 && t.peek 0x0000#16 == 0xAA#8 && t.peek 0xFFFF#16 == 0x92#8 &&
        t.pc == 0x0101#16) ∧
    (passes .pushPSW { base with sp := 0x3000#16 }
      fun t => t.sp == 0x2FFE#16 && t.peek 0x2FFE#16 == 0x02#8 && t.peek 0x2FFF#16 == 0x00#8 &&
        t.pc == 0x0101#16) ∧
    (passes .pushPSW { base with a := 0xFF#8, sp := 0x3000#16, flags := bits 1 1 1 1 1 }
      fun t => t.sp == 0x2FFE#16 && t.peek 0x2FFE#16 == 0xD7#8 && t.peek 0x2FFF#16 == 0xFF#8 &&
        t.pc == 0x0101#16) := by decide

/-- 95_test_vectors.md S8, S9, S10. -/
theorem test_R212_pop :
    (passes .popB { base with sp := 0x2FFE#16, mem := [(0x2FFE, 0x34#8), (0x2FFF, 0x12#8)] }
      fun t => t.b == 0x12#8 && t.c == 0x34#8 && t.sp == 0x3000#16 && t.pc == 0x0101#16) ∧
    (passes .popD { base with sp := 0x1239#16, flags := bits 1 0 1 0 1,
                              mem := [(0x1239, 0x3D#8), (0x123A, 0x93#8)] }
      fun t => t.d == 0x93#8 && t.e == 0x3D#8 && t.sp == 0x123B#16 &&
        t.pc == 0x0101#16 && t.flags == bits 1 0 1 0 1) ∧
    (passes .popH { base with sp := 0xFFFF#16, mem := [(0x0000, 0xBE#8), (0xFFFF, 0xEF#8)] }
      fun t => t.h == 0xBE#8 && t.l == 0xEF#8 && t.sp == 0x0001#16 && t.pc == 0x0101#16) := by decide

/-- 95_test_vectors.md S11, S12. -/
theorem test_R213_pop :
    (passes .popPSW { base with sp := 0x2C00#16, mem := [(0x2C00, 0xC3#8), (0x2C01, 0xFF#8)] }
      fun t => t.a == 0xFF#8 && t.sp == 0x2C02#16 && t.pc == 0x0101#16 && t.flags == bits 1 1 0 0 1) ∧
    (passes .popPSW { base with sp := 0x2C00#16, flags := bits 1 1 1 1 1,
                                mem := [(0x2C00, 0x28#8), (0x2C01, 0x00#8)] }
      fun t => t.sp == 0x2C02#16 && t.pc == 0x0101#16 && t.flags == bits 0 0 0 0 0) := by decide

/-- 95_test_vectors.md S13. -/
theorem test_R214_xthl :
    (passes .xthl { base with h := 0x0B#8, l := 0x3C#8, sp := 0x10AD#16,
                              mem := [(0x10AD, 0xF0#8), (0x10AE, 0x0D#8)] }
      fun t => t.h == 0x0D#8 && t.l == 0xF0#8 && t.peek 0x10AD#16 == 0x3C#8 &&
        t.peek 0x10AE#16 == 0x0B#8 && t.pc == 0x0101#16) := by decide

/-- 95_test_vectors.md S14. -/
theorem test_R215_sphl :
    (passes .sphl { base with h := 0x50#8, l := 0x6C#8 } fun t => t.sp == 0x506C#16 && t.pc == 0x0101#16) := by decide

/-- 95_test_vectors.md S15. -/
theorem test_R216_in :
    (passes (.inPort 0x10#8) { base with inputs := [(.port 0x10#8, 0x5A#8)] }
      fun t => t.a == 0x5A#8 && t.pc == 0x0102#16) := by decide

/-- 95_test_vectors.md S16. -/
theorem test_R217_out :
    (passes (.outPort 0x20#8) { base with a := 0x81#8 }
      fun t => t.outputs == [.port 0x20#8 0x81#8] && t.pc == 0x0102#16) := by decide

/-- 95_test_vectors.md S17. -/
theorem test_R218_ei :
    (passes .ei base fun t => t.inte && t.eiShadow && t.pc == 0x0101#16) := by decide

/-- 95_test_vectors.md S18. -/
theorem test_R219_di :
    (passes .di { base with inte := true } fun t => !t.inte && !t.eiShadow && t.pc == 0x0101#16) := by decide

/-- 95_test_vectors.md S19. -/
theorem test_R221_nop :
    (passes .nop base fun t => t.pc == 0x0101#16) := by decide

/-- 95_test_vectors.md S20, S21. -/
theorem test_R220_hlt :
    (passes .hlt base fun t => t.halted && t.pc == 0x0101#16) ∧
    (passes .hlt { base with inte := true } fun t => t.halted && t.pc == 0x0101#16) := by decide

/-! ### One step -/

/-- The step answers a next state, and the check holds of it. -/
def stepPasses (s : State) (check : State → Bool) : Bool :=
  match step s with
  | .next t => check t
  | .fault _ => false
  | .refused _ => false

/-- 95_test_vectors.md I1: acceptance pushes the unincremented PC and clears INTE. -/
theorem test_interrupt_accepted :
    stepPasses { base with pc := 0x1234#16, sp := 0x3000#16, inte := true, env := [{ int := some 0xFF#8 }] } (fun t =>
      t.pc == 0x0038#16 && t.sp == 0x2FFE#16 && t.peek 0x2FFF#16 == 0x12#8 && t.peek 0x2FFE#16 == 0x34#8 &&
        !t.inte && t.env.isEmpty) = true := by decide

/-- 95_test_vectors.md I2: the same byte in memory is an ordinary RST 7. -/
theorem test_restart_from_memory :
    stepPasses { base with pc := 0x1234#16, sp := 0x3000#16, inte := true, mem := [(0x1234, 0xFF#8)] } (fun t =>
      t.pc == 0x0038#16 && t.peek 0x2FFE#16 == 0x35#8 && t.inte) = true := by decide

/-- 95_test_vectors.md I3: with INTE = 0 the request is ignored and not remembered. -/
theorem test_interrupt_ignored :
    stepPasses { base with mem := [(0x0100, 0x00#8)], env := [{ int := some 0xCF#8 }] } (fun t =>
      t.pc == 0x0101#16 && !t.inte && t.env.isEmpty) = true := by decide

/-- 95_test_vectors.md I4: at the boundary after EI the request waits; the NOP runs and ends the shadow. -/
theorem test_shadow_of_ei :
    stepPasses { base with pc := 0x0101#16, inte := true, eiShadow := true, mem := [(0x0101, 0x00#8)],
                           env := [{ int := some 0xCF#8 }] } (fun t =>
      t.pc == 0x0102#16 && t.inte && !t.eiShadow) = true := by decide

/-- 95_test_vectors.md I7: an interrupt ends the halt; PC is already past the HLT. -/
theorem test_interrupt_from_halt :
    stepPasses { base with pc := 0x0101#16, halted := true, inte := true, env := [{ int := some 0xD7#8 }] } (fun t =>
      t.pc == 0x0010#16 && t.sp == 0xFFFE#16 && t.peek 0xFFFF#16 == 0x01#8 && t.peek 0xFFFE#16 == 0x01#8 &&
        !t.halted && !t.inte) = true := by decide

/-- 95_test_vectors.md I8: halted with INTE = 0, nothing ends the halt. -/
theorem test_halted_forever :
    step { base with halted := true, env := [{ int := some 0xCF#8 }] } = .fault .haltedForever := rfl

/-- A halted machine waits for an interrupt that is still to come (10_state.md R34). -/
theorem test_halted_waits :
    stepPasses { base with halted := true, inte := true, env := [{}, { int := some 0xCF#8 }] } (fun t =>
      t.pc == 0x0100#16 && t.halted && t.env.length == 1) = true := by decide

/-- 95_test_vectors.md I9: the first byte of a CALL on acknowledge. -/
theorem test_call_on_acknowledge :
    step { base with inte := true, env := [{ int := some 0xCD#8 }] } =
      .refused (.unsupportedInterruptInstruction 0xCD#8) := rfl

/-- 95_test_vectors.md X1. -/
theorem test_reset_pulse :
    stepPasses { base with pc := 0x4321#16, inte := true, halted := true, mem := [(0x4321, 0x76#8)],
                           env := [{ reset := true, int := some 0xCF#8 }] } (fun t =>
      t.pc == 0x0000#16 && !t.inte && !t.halted && t.mem == [(0x4321, 0x76#8)]) = true := by decide

/-- 95_test_vectors.md E10: the operand byte is fetched across the end of memory. -/
theorem test_fetch_wraps :
    stepPasses { base with pc := 0xFFFF#16, a := 0x81#8, mem := [(0x0000, 0x20#8), (0xFFFF, 0xD3#8)] } (fun t =>
      t.pc == 0x0001#16 && t.outputs == [.port 0x20#8 0x81#8]) = true := by decide

/-- 95_test_vectors.md 3.4: an unlisted byte raises IllegalOpcode with its address. -/
theorem test_unlisted_faults :
    step { base with mem := [(0x0100, 0x08#8)] } = .fault (.illegalOpcode 0x08#8 0x0100#16) := rfl

/-- 95_test_vectors.md Q1 to Q4. -/
theorem test_unlisted_act :
    (passes .unlisted08 { base with launch := { unlisted := .act } } fun t => t.pc == 0x0101#16) ∧
    (passes (.unlistedCB 0x2000#16) { base with launch := { unlisted := .act } } fun t => t.pc == 0x2000#16) ∧
    (passes .unlistedD9 { base with launch := { unlisted := .act }, sp := 0x3000#16,
                                    mem := [(0x3000, 0x37#8), (0x3001, 0x12#8)] }
      fun t => t.pc == 0x1237#16 && t.sp == 0x3002#16) ∧
    (passes (.unlistedDD 0x2000#16) { base with launch := { unlisted := .act }, sp := 0x3000#16 }
      fun t => t.pc == 0x2000#16 && t.sp == 0x2FFE#16 && t.peek 0x2FFF#16 == 0x01#8 && t.peek 0x2FFE#16 == 0x03#8) := by
  decide

/-- The memory map of 95_test_vectors.md 3.5. -/
def sampleMap : Config.Launch :=
  { memmap := [{ base := 0x0000, size := 0x1000, kind := .rom }, { base := 0x1000, size := 0x1000, kind := .ram },
               { base := 0x2000, size := 0xE000, kind := .unpopulated }] }

/-- 95_test_vectors.md M1 and M3. -/
theorem test_stores_under_a_map :
    (passes (.sta 0x0800#16) { base with launch := sampleMap, a := 0x55#8, mem := [(0x0800, 0xC9#8)] }
      fun t => t.peek 0x0800#16 == 0xC9#8 && t.pc == 0x0103#16) ∧
    (passes .pushB { base with launch := sampleMap, b := 0x12#8, c := 0x34#8, sp := 0x1001#16, mem := [(0x0FFF, 0x00#8)] }
      fun t => t.peek 0x1000#16 == 0x12#8 && t.peek 0x0FFF#16 == 0x00#8 && t.sp == 0x0FFF#16) := by decide

/-- 20_memory.md R68: a bus master's write lands between the two reads of LHLD. -/
theorem test_bus_master_between_two_reads :
    (passes (.lhld 0x2000#16) { base with mem := [(0x2000, 0x34#8), (0x2001, 0x12#8)],
                                          dma := [[], [(0x2000#16, 0xFF#8), (0x2001#16, 0x99#8)]] }
      fun t => t.l == 0x34#8 && t.h == 0x99#8 && t.dma.isEmpty) := by decide

/-- 20_memory.md R57, R67, R68 and D22: a bus master's writes in one slot, to rom (ignored), to a device (an event), to an
unpopulated address (ignored) and to ram. -/
theorem test_bus_master_under_a_map :
    (passes (.lda 0x0800#16) { base with launch := { sampleMap with memmap := { base := 0xFF00, size := 0x100, kind := .device } :: sampleMap.memmap },
                                         mem := [(0x0800, 0xC9#8), (0x1000, 0x11#8)],
                                         dma := [[(0x0800#16, 0x55#8), (0xFF00#16, 0x66#8), (0x2000#16, 0x77#8), (0x1000#16, 0x88#8)]] }
      fun t => t.a == 0xC9#8 && t.mem == [(0x0800, 0xC9#8), (0x1000, 0x88#8)] && t.outputs == [.device 0xFF00#16 0x66#8]) := by
  decide

/-- 95_test_vectors.md B1 as the first instruction after reset, placed by `withFetchWord`. -/
theorem test_first_instruction_after_reset :
    stepPasses (State.reset.withFetchWord 24 0x3E00C3) (fun t => t.pc == 0x3E00#16) = true := by decide

/-- A byte written twice stands once, in the canonical form. -/
theorem test_memory_form : Memory.write (Memory.write [] 0x10 0x01#8) 0x10 0x02#8 = [(0x10, 0x02#8)] ∧
    Memory.wf (Memory.write [(0x10, 0x01#8)] 0x08 0x00#8) = true := by decide

/-! ### States and operands that meet the hypotheses of the obligations -/

/-- A state with bytes in memory at its PC, a stack, and an operand in memory. -/
def witness : State :=
  { base with h := 0x20#8, sp := 0x3000#16, mem := [(0x0100, 0x86#8), (0x2000, 0x09#8), (0x3000, 0x34#8), (0x3001, 0x12#8)] }

/-- `s.dma = []`, `isMemory` and `kindAt … = .ram`, the premises inside the statements about loads, stores and stacks: at
both ends of the address space. -/
theorem test_witness_plain_memory : witness.dma = [] ∧ witness.kindAt 0x0000#16 = .ram ∧ witness.kindAt 0xFFFF#16 = .ram ∧
    (witness.kindAt 0xFFFF#16 = .ram ∨ witness.kindAt 0xFFFF#16 = .rom) := by decide

/-- Both outcomes of a condition, the premises of the conditional jumps, calls and returns. -/
theorem test_witness_conditions : condHolds .nz (bits 0 0 0 0 0) = true ∧ condHolds .nz (bits 0 1 0 0 0) = false := by decide

theorem test_witness_EncodeWritesBackEveryDecoding :
    decode [0x21#8, 0x34#8, 0x12#8, 0x00#8] = .ok (.lxiH 0x1234#16, [0x00#8]) := rfl

/-- One first byte for each of the three lengths. -/
theorem test_witness_FirstByteTellsTheLength :
    0x00#8 ∉ unlistedBytes ∧ 0x06#8 ∉ unlistedBytes ∧ 0xFC#8 ∉ unlistedBytes := by decide

/-- Both sides of the equivalence: 00H is listed, FDH is not. -/
theorem test_witness_ExactlyTwelveBytesSpellNoInstruction :
    decode [0x00#8, 0x00#8, 0x00#8] = .ok (.nop, [0x00#8, 0x00#8]) ∧
      decode [0xFD#8, 0x00#8, 0x00#8] = .ok (.unlistedFD 0x0000#16, []) := ⟨rfl, rfl⟩

/-- 99 + 99 with CY = 1, the largest sum. -/
theorem test_witness_AdcThenDaaAddsPackedBcd :
    isBcd ({ base with a := 0x99#8, b := 0x99#8, flags := bits 0 0 0 0 1 } : State).a ∧
      isBcd (({ base with a := 0x99#8, b := 0x99#8, flags := bits 0 0 0 0 1 } : State).reg .b) := by
  unfold isBcd; decide

/-- The two corrections at the two sides of their limits: 09H and 0AH, 99H and 9AH (95_test_vectors.md A40). -/
theorem test_witness_DaaAdjustsToDecimal :
    (passes .daa { base with a := 0x09#8 } fun t => t.a == 0x09#8 && !t.flags.ac) ∧
    (passes .daa { base with a := 0x0A#8 } fun t => t.a == 0x10#8 && t.flags.ac) ∧
    (passes .daa { base with a := 0x99#8 } fun t => t.a == 0x99#8 && !t.flags.cy) ∧
    (passes .daa { base with a := 0x9A#8 } fun t => t.a == 0x00#8 && t.flags.cy) := by decide

/-- The three rules for AC, each the one in force for its operand. -/
theorem test_witness_AnaAndAniGiveTheAnd :
    Config.AcRule.anyValue = base.launch.anaAc ∧ Config.AcRule.cleared = base.launch.aniAc ∧
      Config.AcRule.orBit3 = ({ base with launch := { anaAc := .orBit3 } } : State).launch.anaAc := by decide

theorem test_witness_InTakesAByteFromThePort :
    takeInput (.port 0xFF#8) [(.port 0xFF#8, 0x5A#8)] = some (0x5A#8, []) ∧
      takeInput (.port 0xFF#8) base.inputs = none := by decide

theorem test_witness_UnlistedBytesRaiseIllegalOpcode : base.launch.unlisted = .fault := rfl

theorem test_witness_UnlistedBytesActAsNamed :
    ({ base with launch := { unlisted := .act } } : State).launch.unlisted = .act := rfl

theorem test_witness_EveryListedInstructionCompletes : Instr.wellFormed (.cm 0x4000#16) = true := rfl

/-- The premises of the statement about the flags, for an instruction that writes none. -/
theorem test_witness_FlagsChangeOnlyInTheRowsOfR28 :
    (∃ t, exec (.lda 0x2000#16) witness = .next t) ∧ writesSZAP (opcodeOf (.lda 0x2000#16)) = false ∧
      writesCY (opcodeOf (.lda 0x2000#16)) = false := ⟨⟨_, rfl⟩, by decide, by decide⟩

/-- The instructions the cases of the statement name: EI, DI, HLT and another. -/
theorem test_witness_ControlBitsOfEveryInstruction :
    (∃ t, exec .ei witness = .next t) ∧ (∃ t, exec .di witness = .next t) ∧ (∃ t, exec .hlt witness = .next t) ∧
      ∃ t, exec .nop witness = .next t := ⟨⟨_, rfl⟩, ⟨_, rfl⟩, ⟨_, rfl⟩, ⟨_, rfl⟩⟩

theorem test_witness_StoresStayInTheirFootprint :
    witness.dma = [] ∧ storeAddresses .xthl witness = [0x3001#16, 0x3000#16] ∧ ∃ t, exec .xthl witness = .next t :=
  ⟨rfl, rfl, ⟨_, rfl⟩⟩

theorem test_witness_StackPointerWritersAreTheNamedOnes :
    (∃ t, exec .xthl witness = .next t) ∧ mayWriteSP (opcodeOf .xthl) = false := ⟨⟨_, rfl⟩, by decide⟩

theorem test_witness_ProgramCounterPassesTheInstruction :
    (∃ t, exec (.sta 0xFFFF#16) { base with pc := 0xFFFE#16 } = .next t) ∧ mayTransfer (opcodeOf (.sta 0xFFFF#16)) = false :=
  ⟨⟨_, rfl⟩, by decide⟩

/-- A request that is not effective may stand at the boundary. -/
def held : State := { base with env := [{ int := some 0xFF#8 }], mem := [(0x0100, 0x3E#8), (0x0101, 0x76#8), (0x0102, 0x76#8)] }

theorem held_quiet : held.quiet := by
  intro b h
  simp only [held, List.head?_cons, Option.some.injEq] at h
  subst h
  exact ⟨rfl, .inr (.inl rfl)⟩

theorem test_witness_StepRunsTheDecodedInstruction :
    held.halted = false ∧ held.quiet ∧ held.dma = [] ∧
      decode [held.peek held.pc, held.peek (held.pc + 1#16), held.peek (held.pc + 2#16)] =
        .ok (.mviA 0x76#8, [0x76#8]) ∧
      held.isMemory held.pc ∧ held.isMemory (held.pc + 1#16) ∧ held.isMemory (held.pc + 2#16) :=
  ⟨rfl, held_quiet, rfl, rfl, .inl rfl, .inl rfl, .inl rfl⟩

/-- An effective request with a restart byte at the boundary. -/
def requested (op : Byte) (halted : Bool) : State :=
  { witness with inte := true, halted := halted, env := [{ int := some op }] }

/-- Both ends of the restart numbers, running and halted. -/
theorem test_witness_InterruptEntry :
    ((requested 0xC7#8 false).env = { int := some 0xC7#8 } :: [] ∧ encode (.rst .o0) = [0xC7#8] ∧
      (requested 0xC7#8 false).inte = true ∧ (requested 0xC7#8 false).eiShadow = false) ∧
    ((requested 0xFF#8 true).env = { int := some 0xFF#8 } :: [] ∧ encode (.rst .o7) = [0xFF#8] ∧
      (requested 0xFF#8 true).inte = true ∧ (requested 0xFF#8 true).eiShadow = false) ∧
    ({ int := some 0xFF#8 } : Boundary).reset = false := by decide

theorem test_witness_ReturnFromTheHandlerResumes :
    (requested 0xFF#8 true).env = { int := some 0xFF#8 } :: [] ∧ ({ int := some 0xFF#8 } : Boundary).reset = false ∧
      encode (.rst .o7) = [0xFF#8] ∧ (requested 0xFF#8 true).inte = true ∧ (requested 0xFF#8 true).eiShadow = false ∧
      (requested 0xFF#8 true).dma = [] ∧
      (requested 0xFF#8 true).kindAt ((requested 0xFF#8 true).sp - 1#16) = .ram ∧
      (requested 0xFF#8 true).kindAt ((requested 0xFF#8 true).sp - 2#16) = .ram := by decide

/-- Both reasons for holding a request off: INTE = 0, and EI_SHADOW = 1. -/
theorem test_witness_InterruptIsHeldOff :
    (held.env = { int := some 0xFF#8 } :: [] ∧ held.inte = false) ∧
      ({ held with inte := true, eiShadow := true } : State).eiShadow = true := by decide

theorem test_witness_NonRestartByteIsRefused :
    (∀ n, encode (.rst n) ≠ [0xCD#8]) ∧ (requested 0xCD#8 false).env = { int := some 0xCD#8 } :: [] ∧
      ({ int := some 0xCD#8 } : Boundary).reset = false ∧ (requested 0xCD#8 false).inte = true ∧
      (requested 0xCD#8 false).eiShadow = false := by
  refine ⟨?_, rfl, rfl, rfl, rfl⟩
  intro n; cases n <;> decide

theorem test_witness_ResetPulseRestartsTheMachine :
    ({ witness with env := [{ reset := true }] } : State).env = [{ reset := true }] := rfl

/-- A halted machine with a wakening entry to come, and one with none. -/
theorem test_witness_HaltedMachineWaitsOrIsStuck :
    ({ held with halted := true } : State).quiet ∧
      (∀ b ∈ held.env.tail, b.reset = false ∧ (held.inte = false ∨ held.eiShadow = true ∨ b.int = none)) ∧
      ∃ b ∈ ({ held with halted := true, env := [{}, { reset := true }] } : State).env.tail, b.reset = true :=
  ⟨held_quiet, by simp [held], ⟨{ reset := true }, by simp, rfl⟩⟩

theorem test_witness_StepKeepsTheInvariant :
    witness.Inv ∧ ∃ t, step witness = .next t := ⟨⟨by decide, by decide, by decide⟩, ⟨_, rfl⟩⟩

theorem test_witness_StepOnlyMovesThePlatformForward : ∃ t, step held = .next t := ⟨_, rfl⟩

/-- Reading back the address stored to, and another one. -/
theorem test_witness_LoadSeesTheLastStore :
    (passes (.sta 0xFFFF#16) { base with a := 0x5A#8, mem := [(0x0000, 0x11#8)] } fun t =>
      passes (.lda 0xFFFF#16) t (fun u => u.a == 0x5A#8) && passes (.lda 0x0000#16) t (fun u => u.a == 0x11#8)) := by decide

/-- An address of each kind under a map. -/
theorem test_witness_StoreOutsideRamChangesNoMemory :
    ({ base with launch := sampleMap } : State).kindAt 0x0FFF#16 = .rom ∧
      ({ base with launch := sampleMap } : State).kindAt 0x2000#16 = .unpopulated ∧
      ({ base with launch := { memmap := [{ base := 0xFF00, size := 0x100, kind := .device }] } } : State).kindAt
        0xFFFF#16 = .device := by decide

/-- A slot that writes an address of ram twice; then one that writes rom, with both ends of rom and the first of ram. -/
theorem test_witness_BusMasterWritesLandBeforeTheAccess :
    (({ base with dma := [[(0x2000#16, 0x01#8), (0x2000#16, 0x02#8)]] } : State).dma =
      [(0x2000#16, 0x01#8), (0x2000#16, 0x02#8)] :: [] ∧ base.kindAt 0x2000#16 = .ram) ∧
    (({ base with launch := sampleMap, dma := [[(0x0FFF#16, 0x01#8)]] } : State).dma = [(0x0FFF#16, 0x01#8)] :: [] ∧
      ({ base with launch := sampleMap } : State).kindAt 0x0000#16 = .rom ∧
      ({ base with launch := sampleMap } : State).kindAt 0x0FFF#16 = .rom ∧
      ({ base with launch := sampleMap } : State).kindAt 0x1000#16 = .ram) := by decide

/-- A stack in ram where it wraps: SP = 1. -/
theorem test_witness_PushThenPopRestores :
    ({ base with sp := 0x0001#16 } : State).dma = [] ∧
      ({ base with sp := 0x0001#16 } : State).kindAt (0x0001#16 - 1#16) = .ram ∧
      ({ base with sp := 0x0001#16 } : State).kindAt (0x0001#16 - 2#16) = .ram := by decide

theorem test_witness_CallThenReturnResumes :
    ({ base with sp := 0x0001#16, pc := 0xFFFE#16 } : State).dma = [] ∧
      ({ base with sp := 0x0001#16, pc := 0xFFFE#16 } : State).kindAt (0x0001#16 - 1#16) = .ram ∧
      ({ base with sp := 0x0001#16, pc := 0xFFFE#16 } : State).kindAt (0x0001#16 - 2#16) = .ram := by decide

theorem test_witness_XthlTwiceRestores :
    ({ base with sp := 0xFFFF#16 } : State).dma = [] ∧ ({ base with sp := 0xFFFF#16 } : State).kindAt 0xFFFF#16 = .ram ∧
      ({ base with sp := 0xFFFF#16 } : State).kindAt (0xFFFF#16 + 1#16) = .ram := by decide

end Sys2Proof.Tests
end

section
/-! What the platform's part of the state can become. `MovesForward s t`: from `s` to `t` the launch and `env` stay, the
bus master's schedule loses entries from its front, output events are appended, and no free value is taken back. It
composes, every operation on the bus has it, and a change of registers does not matter to it. -/

namespace Sys2Proof.Machine

/-- The platform has only moved forward from `s` to `t`, within one instruction boundary (R5, R61, R217). -/
structure MovesForward (s t : State) : Prop where
  launch : t.launch = s.launch
  env : t.env = s.env
  dma : ∃ k, t.dma = s.dma.drop k
  outputs : ∃ new, t.outputs = s.outputs ++ new
  draws : s.draws ≤ t.draws

theorem MovesForward.refl (s : State) : MovesForward s s := ⟨rfl, rfl, ⟨0, rfl⟩, ⟨[], by simp⟩, le_rfl⟩

theorem MovesForward.trans {s t u : State} (h : MovesForward s t) (h' : MovesForward t u) : MovesForward s u := by
  obtain ⟨k, dma⟩ := h.dma
  obtain ⟨k', dma'⟩ := h'.dma
  obtain ⟨new, outputs⟩ := h.outputs
  obtain ⟨new', outputs'⟩ := h'.outputs
  exact ⟨h'.launch.trans h.launch, h'.env.trans h.env, ⟨k + k', by rw [dma', dma, List.drop_drop]⟩,
    ⟨new ++ new', by rw [outputs', outputs, List.append_assoc]⟩, h.draws.trans h'.draws⟩

/-- What an instruction does to the registers after its accesses does not matter. That it is only the registers follows
from the `simp` lemmas of the updates. -/
theorem MovesForward.thenRegisters {s t u : State} (h : MovesForward s t)
    (same : samePlatform t u := by simp [samePlatform, sameEnvironment]) : MovesForward s u := by
  obtain ⟨⟨launch, env, dma, -, outputs⟩, draws⟩ := same
  exact h.trans ⟨launch, env, ⟨0, dma⟩, ⟨[], by simp [outputs]⟩, draws.ge⟩

theorem MovesForward.ofRegisters {s t : State}
    (same : samePlatform s t := by simp [samePlatform, sameEnvironment]) : MovesForward s t :=
  (MovesForward.refl s).thenRegisters same

/-! ### The operations on the bus -/

theorem State.store_movesForward (x : Word) (v : Byte) (s : State) : MovesForward s (s.store x v) :=
  ⟨by simp, by simp, ⟨0, by simp⟩, ⟨_, State.store_outputs x v s⟩, by simp⟩

theorem State.busSlot_movesForward (s : State) : MovesForward s s.busSlot :=
  ⟨by simp, by simp, ⟨1, by simp⟩, State.busSlot_outputs_grow s, by simp⟩

theorem State.input_movesForward (src : Source) (s : State) : MovesForward s (s.input src).2 := by
  refine ⟨by simp, by simp, ⟨0, by simp⟩, ⟨[], by simp⟩, ?draws⟩
  rcases State.input_spec src s with ⟨v, rest, -, scripted⟩ | ⟨-, free⟩
  · rw [scripted]
  · rw [free]; exact Nat.le_succ _

theorem State.readMem_movesForward (x : Word) (s : State) : MovesForward s (s.readMem x).2 := by
  have slot := State.busSlot_movesForward s
  rcases State.readMem_spec x s with ⟨-, memory⟩ | ⟨-, unpopulated⟩ | ⟨-, device⟩
  · rw [memory]; exact slot
  · rw [unpopulated]; exact ⟨slot.launch, slot.env, slot.dma, slot.outputs, Nat.le_succ _⟩
  · rw [device]; exact slot.trans (State.input_movesForward _ _)

theorem State.writeMem_movesForward (x : Word) (v : Byte) (s : State) : MovesForward s (s.writeMem x v) :=
  (State.busSlot_movesForward s).trans (State.store_movesForward x v _)

theorem State.ioRead_movesForward (p : Byte) (s : State) : MovesForward s (s.ioRead p).2 :=
  (State.busSlot_movesForward s).trans (State.input_movesForward _ _)

theorem State.ioWrite_movesForward (p v : Byte) (s : State) : MovesForward s (s.ioWrite p v) :=
  (State.busSlot_movesForward s).trans ⟨rfl, rfl, ⟨0, rfl⟩, ⟨[.port p v], rfl⟩, le_rfl⟩

theorem State.readMem16_movesForward (x : Word) (s : State) : MovesForward s (s.readMem16 x).2 :=
  (State.readMem_movesForward x s).trans (State.readMem_movesForward _ _)

theorem State.writeMem16_movesForward (x v : Word) (s : State) : MovesForward s (s.writeMem16 x v) :=
  (State.writeMem_movesForward x _ s).trans (State.writeMem_movesForward _ _ _)

theorem State.push16_movesForward (v : Word) (s : State) : MovesForward s (s.push16 v) := by
  have high := State.writeMem_movesForward (s.sp - 1#16) (hiByte v) s
  unfold State.push16
  exact (high.trans (State.writeMem_movesForward (s.sp - 2#16) (loByte v) _)).thenRegisters

theorem State.pop16_movesForward (s : State) : MovesForward s s.pop16.2 := by
  unfold State.pop16
  exact (State.readMem16_movesForward s.sp s).thenRegisters

/-! ### The operations made of them -/

theorem State.operand_movesForward (o : Operand8) (s : State) : MovesForward s (s.operand o).2 := by
  cases o with
  | reg r => exact .refl s
  | mem => exact State.readMem_movesForward s.hl s
  | imm v => exact .refl s

theorem State.andAcc_movesForward (rule : Config.AcRule) (v : Byte) (s : State) : MovesForward s (s.andAcc rule v) :=
  ⟨rfl, rfl, ⟨0, rfl⟩, ⟨[], by simp [State.andAcc]⟩, Nat.le_add_right _ _⟩

theorem State.callTo_movesForward (len target : Word) (s : State) : MovesForward s (s.callTo len target) := by
  unfold State.callTo
  exact (State.push16_movesForward (s.pc + len) s).thenRegisters

theorem State.returnFrom_movesForward (s : State) : MovesForward s s.returnFrom := by
  unfold State.returnFrom
  exact (State.pop16_movesForward s).thenRegisters

theorem State.takeInterrupt_movesForward (n : Octal) (s : State) : MovesForward s (s.takeInterrupt n) := by
  have accepted : MovesForward s { s with inte := false, eiShadow := false, halted := false }  := .ofRegisters
  unfold State.takeInterrupt
  exact (accepted.trans (State.push16_movesForward s.pc _)).thenRegisters

theorem State.resetPulse_movesForward (s : State) : MovesForward s s.resetPulse :=
  ⟨rfl, rfl, ⟨0, rfl⟩, ⟨[], by simp [State.resetPulse]⟩, Nat.le_add_right _ _⟩

theorem State.fetch_movesForward (s : State) : MovesForward s s.fetch.2 := by
  have one := State.readMem_movesForward s.pc s
  have two := one.trans (State.readMem_movesForward (s.pc + 1#16) _)
  have three := two.trans (State.readMem_movesForward (s.pc + 2#16) _)
  unfold State.fetch
  dsimp only
  split
  · exact three
  · split
    · exact two
    · exact one

end Sys2Proof.Machine
end

section
/-! The shared forms an instruction's meaning can take: one constructor per form of the instruction groups (R110 to
R221), and one for the fault of 30_encoding.md R92. A fact that holds of every instruction is a case split over these
forms; `exec_form` is the one place that goes through the 256 rows. -/

namespace Sys2Proof.Machine

/-- `ExecForm s r`: in the state `s` the shared form that the constructor names answers `r`. -/
inductive ExecForm (s : State) : Result → Prop where
  | moveReg (r1 r2 : Reg8) : ExecForm s (moveReg r1 r2 s)
  | moveToMem (r : Reg8) : ExecForm s (moveToMem r s)
  | moveFromMem (r : Reg8) : ExecForm s (moveFromMem r s)
  | moveImm (r : Reg8) (data : Byte) : ExecForm s (moveImm r data s)
  | moveImmToMem (data : Byte) : ExecForm s (moveImmToMem data s)
  | loadPairImm (p : RegPair) (data16 : Word) : ExecForm s (loadPairImm p data16 s)
  | loadAccDirect (addr : Word) : ExecForm s (loadAccDirect addr s)
  | storeAccDirect (addr : Word) : ExecForm s (storeAccDirect addr s)
  | loadHlDirect (addr : Word) : ExecForm s (loadHlDirect addr s)
  | storeHlDirect (addr : Word) : ExecForm s (storeHlDirect addr s)
  | loadAccAt (p : RegPair) : ExecForm s (loadAccAt p s)
  | storeAccAt (p : RegPair) : ExecForm s (storeAccAt p s)
  | exchangeDeHl : ExecForm s (exchangeDeHl s)
  | addOp (o : Operand8) : ExecForm s (addOp o s)
  | adcOp (o : Operand8) : ExecForm s (adcOp o s)
  | subOp (o : Operand8) : ExecForm s (subOp o s)
  | sbbOp (o : Operand8) : ExecForm s (sbbOp o s)
  | incReg (r : Reg8) : ExecForm s (incReg r s)
  | incMem : ExecForm s (incMem s)
  | decReg (r : Reg8) : ExecForm s (decReg r s)
  | decMem : ExecForm s (decMem s)
  | incPair (p : RegPair) : ExecForm s (incPair p s)
  | decPair (p : RegPair) : ExecForm s (decPair p s)
  | doubleAdd (p : RegPair) : ExecForm s (doubleAdd p s)
  | decimalAdjust : ExecForm s (decimalAdjust s)
  | anaOp (o : Operand8) : ExecForm s (anaOp o s)
  | aniOp (data : Byte) : ExecForm s (aniOp data s)
  | xraOp (o : Operand8) : ExecForm s (xraOp o s)
  | oraOp (o : Operand8) : ExecForm s (oraOp o s)
  | cmpOp (o : Operand8) : ExecForm s (cmpOp o s)
  | rotateLeft : ExecForm s (rotateLeft s)
  | rotateRight : ExecForm s (rotateRight s)
  | rotateLeftCarry : ExecForm s (rotateLeftCarry s)
  | rotateRightCarry : ExecForm s (rotateRightCarry s)
  | complementAcc : ExecForm s (complementAcc s)
  | complementCarry : ExecForm s (complementCarry s)
  | setCarry : ExecForm s (setCarry s)
  | jumpAlways (addr : Word) : ExecForm s (jumpAlways addr s)
  | jumpOn (cond : Cond) (addr : Word) : ExecForm s (jumpOn cond addr s)
  | callAlways (addr : Word) : ExecForm s (callAlways addr s)
  | callOn (cond : Cond) (addr : Word) : ExecForm s (callOn cond addr s)
  | returnAlways : ExecForm s (returnAlways s)
  | returnOn (cond : Cond) : ExecForm s (returnOn cond s)
  | restart (n : Octal) : ExecForm s (restart n s)
  | jumpToHl : ExecForm s (jumpToHl s)
  | unlistedFault (op : Byte) : ExecForm s (.fault (.illegalOpcode op s.pc))
  | inputPort (port : Byte) : ExecForm s (inputPort port s)
  | outputPort (port : Byte) : ExecForm s (outputPort port s)
  | pushPair (p : StackPair) : ExecForm s (pushPair p s)
  | popPair (p : StackPair) : ExecForm s (popPair p s)
  | exchangeTop : ExecForm s (exchangeTop s)
  | loadSpFromHl : ExecForm s (loadSpFromHl s)
  | enableInterrupts : ExecForm s (enableInterrupts s)
  | disableInterrupts : ExecForm s (disableInterrupts s)
  | halt : ExecForm s (halt s)
  | noOperation : ExecForm s (noOperation s)

/-- An unlisted first byte faults or takes the form of the instruction R92 names. -/
theorem unlistedElse_form (op : Byte) {meaning : Result} {s : State} (h : ExecForm s meaning) :
    ExecForm s (unlistedElse op meaning s) := by
  unfold unlistedElse
  split
  · exact .unlistedFault op
  · exact h

/-- Every instruction's answer, in every state, has one of the shared forms. -/
theorem exec_form (i : Instr) (s : State) : ExecForm s (exec i s) := by
  cases i with
  | movBB | movBC | movBD | movBE | movBH | movBL | movBA | movCB | movCC | movCD | movCE | movCH | movCL | movCA
  | movDB | movDC | movDD | movDE | movDH | movDL | movDA | movEB | movEC | movED | movEE | movEH | movEL | movEA
  | movHB | movHC | movHD | movHE | movHH | movHL | movHA | movLB | movLC | movLD | movLE | movLH | movLL | movLA
  | movAB | movAC | movAD | movAE | movAH | movAL | movAA => exact .moveReg _ _
  | movMB | movMC | movMD | movME | movMH | movML | movMA => exact .moveToMem _
  | movBM | movCM | movDM | movEM | movHM | movLM | movAM => exact .moveFromMem _
  | mviB data | mviC data | mviD data | mviE data | mviH data | mviL data | mviA data => exact .moveImm _ data
  | mviM data => exact .moveImmToMem data
  | lxiB data16 | lxiD data16 | lxiH data16 | lxiSP data16 => exact .loadPairImm _ data16
  | lda addr => exact .loadAccDirect addr
  | sta addr => exact .storeAccDirect addr
  | lhld addr => exact .loadHlDirect addr
  | shld addr => exact .storeHlDirect addr
  | ldaxB | ldaxD => exact .loadAccAt _
  | staxB | staxD => exact .storeAccAt _
  | xchg => exact .exchangeDeHl
  | addB | addC | addD | addE | addH | addL | addA | addM | adi _ => exact .addOp _
  | adcB | adcC | adcD | adcE | adcH | adcL | adcA | adcM | aci _ => exact .adcOp _
  | subB | subC | subD | subE | subH | subL | subA | subM | sui _ => exact .subOp _
  | sbbB | sbbC | sbbD | sbbE | sbbH | sbbL | sbbA | sbbM | sbi _ => exact .sbbOp _
  | inrB | inrC | inrD | inrE | inrH | inrL | inrA => exact .incReg _
  | inrM => exact .incMem
  | dcrB | dcrC | dcrD | dcrE | dcrH | dcrL | dcrA => exact .decReg _
  | dcrM => exact .decMem
  | inxB | inxD | inxH | inxSP => exact .incPair _
  | dcxB | dcxD | dcxH | dcxSP => exact .decPair _
  | dadB | dadD | dadH | dadSP => exact .doubleAdd _
  | daa => exact .decimalAdjust
  | anaB | anaC | anaD | anaE | anaH | anaL | anaA | anaM => exact .anaOp _
  | ani data => exact .aniOp data
  | xraB | xraC | xraD | xraE | xraH | xraL | xraA | xraM | xri _ => exact .xraOp _
  | oraB | oraC | oraD | oraE | oraH | oraL | oraA | oraM | ori _ => exact .oraOp _
  | cmpB | cmpC | cmpD | cmpE | cmpH | cmpL | cmpA | cmpM | cpi _ => exact .cmpOp _
  | rlc => exact .rotateLeft
  | rrc => exact .rotateRight
  | ral => exact .rotateLeftCarry
  | rar => exact .rotateRightCarry
  | cma => exact .complementAcc
  | cmc => exact .complementCarry
  | stc => exact .setCarry
  | jmp addr => exact .jumpAlways addr
  | jnz addr | jz addr | jnc addr | jc addr | jpo addr | jpe addr | jp addr | jm addr => exact .jumpOn _ addr
  | call addr => exact .callAlways addr
  | cnz addr | cz addr | cnc addr | cc addr | cpo addr | cpe addr | cp addr | cm addr => exact .callOn _ addr
  | ret => exact .returnAlways
  | rnz | rz | rnc | rc | rpo | rpe | rp | rm => exact .returnOn _
  | rst0 | rst1 | rst2 | rst3 | rst4 | rst5 | rst6 | rst7 => exact .restart _
  | pchl => exact .jumpToHl
  | unlisted08 | unlisted10 | unlisted18 | unlisted20 | unlisted28 | unlisted30 | unlisted38 =>
    exact unlistedElse_form _ .noOperation
  | unlistedCB addr => exact unlistedElse_form _ (.jumpAlways addr)
  | unlistedD9 => exact unlistedElse_form _ .returnAlways
  | unlistedDD addr | unlistedED addr | unlistedFD addr => exact unlistedElse_form _ (.callAlways addr)
  | inPort port => exact .inputPort port
  | outPort port => exact .outputPort port
  | pushB | pushD | pushH | pushPSW => exact .pushPair _
  | popB | popD | popH | popPSW => exact .popPair _
  | xthl => exact .exchangeTop
  | sphl => exact .loadSpFromHl
  | ei => exact .enableInterrupts
  | di => exact .disableInterrupts
  | hlt => exact .halt
  | nop => exact .noOperation

end Sys2Proof.Machine
end

section
/-! O52: an instruction, an interrupt and a RESET pulse each move the platform forward, and so does a step. -/

namespace Sys2Proof.Machine

/-- Each shared form is some accesses, each of which moves the platform forward, and then a change of registers. -/
theorem ExecForm.movesForward {s t : State} {r : Result} (form : ExecForm s r) (answer : r = .next t) :
    MovesForward s t := by
  cases form with
  | moveReg | moveImm | loadPairImm | exchangeDeHl | incReg | decReg | incPair | decPair | doubleAdd | decimalAdjust
  | rotateLeft | rotateRight | rotateLeftCarry | rotateRightCarry | complementAcc | complementCarry | setCarry
  | jumpAlways | jumpToHl | loadSpFromHl | enableInterrupts | disableInterrupts | halt | noOperation =>
    cases answer
    exact .ofRegisters
  | addOp o | adcOp o | subOp o | sbbOp o | xraOp o | oraOp o | cmpOp o =>
    cases answer
    exact (State.operand_movesForward o s).thenRegisters
  | anaOp o =>
    cases answer
    have operand := State.operand_movesForward o s
    exact (operand.trans (State.andAcc_movesForward s.launch.anaAc (s.operand o).1 _)).thenRegisters
  | aniOp data =>
    cases answer
    exact (State.andAcc_movesForward s.launch.aniAc data s).thenRegisters
  | moveFromMem r =>
    cases answer
    exact (State.readMem_movesForward s.hl s).thenRegisters
  | loadAccDirect addr =>
    cases answer
    exact (State.readMem_movesForward addr s).thenRegisters
  | loadAccAt p =>
    cases answer
    exact (State.readMem_movesForward (s.pair p) s).thenRegisters
  | moveToMem r =>
    cases answer
    exact (State.writeMem_movesForward s.hl (s.reg r) s).thenRegisters
  | moveImmToMem data =>
    cases answer
    exact (State.writeMem_movesForward s.hl data s).thenRegisters
  | storeAccDirect addr =>
    cases answer
    exact (State.writeMem_movesForward addr s.a s).thenRegisters
  | storeAccAt p =>
    cases answer
    exact (State.writeMem_movesForward (s.pair p) s.a s).thenRegisters
  | incMem =>
    cases answer
    have read := State.readMem_movesForward s.hl s
    exact (read.trans (State.writeMem_movesForward s.hl (inr8 (s.readMem s.hl).1 s.flags).1 _)).thenRegisters
  | decMem =>
    cases answer
    have read := State.readMem_movesForward s.hl s
    exact (read.trans (State.writeMem_movesForward s.hl (dcr8 (s.readMem s.hl).1 s.flags).1 _)).thenRegisters
  | loadHlDirect addr =>
    cases answer
    exact (State.readMem16_movesForward addr s).thenRegisters
  | storeHlDirect addr =>
    cases answer
    exact (State.writeMem16_movesForward addr s.hl s).thenRegisters
  | exchangeTop =>
    cases answer
    have read := State.readMem16_movesForward s.sp s
    have writeHigh := read.trans (State.writeMem_movesForward (s.sp + 1#16) s.h _)
    have writeLow := writeHigh.trans (State.writeMem_movesForward s.sp s.l _)
    exact writeLow.thenRegisters
  | inputPort port =>
    cases answer
    exact (State.ioRead_movesForward port s).thenRegisters
  | outputPort port =>
    cases answer
    exact (State.ioWrite_movesForward port s.a s).thenRegisters
  | pushPair p =>
    cases answer
    exact (State.push16_movesForward (s.stackPair p) s).thenRegisters
  | popPair p =>
    cases answer
    exact (State.pop16_movesForward s).thenRegisters
  | callAlways | restart =>
    cases answer
    exact State.callTo_movesForward _ _ s
  | returnAlways =>
    cases answer
    exact State.returnFrom_movesForward s
  | jumpOn cond addr =>
    cases answer
    split
    · exact .ofRegisters
    · exact .ofRegisters
  | callOn cond addr =>
    cases answer
    split
    · exact State.callTo_movesForward _ _ s
    · exact .ofRegisters
  | returnOn cond =>
    cases answer
    split
    · exact State.returnFrom_movesForward s
    · exact .ofRegisters
  | unlistedFault => cases answer

theorem exec_movesForward {i : Instr} {s t : State} (h : exec i s = .next t) : MovesForward s t :=
  (exec_form i s).movesForward h

theorem State.runInstruction_movesForward {s t : State} (h : s.runInstruction = .next t) : MovesForward s t :=
  (State.fetch_movesForward s).trans (exec_movesForward h)

/-- An acknowledge that completes takes one bus access and then the interrupt (R235, R236). -/
theorem State.acknowledge_movesForward {op : Byte} {s t : State} (h : s.acknowledge op = .next t) :
    MovesForward s t := by
  unfold State.acknowledge at h
  split at h
  · cases h
    exact (State.busSlot_movesForward s).trans (State.takeInterrupt_movesForward _ _)
  · cases h

/-- A boundary uses up the first entry of `env`, where there is one, and nothing else. -/
theorem State.popBoundary_state (s : State) : s.popBoundary.2 = { s with env := s.env.tail } := by
  unfold State.popBoundary
  split
  next empty =>
    have tail : s.env.tail = s.env := by rw [empty, List.tail_nil]
    rw [tail]
  next b rest entry => rw [entry, List.tail_cons]

/-- Once the boundary's entry of `env` is used up, whatever the step does moves the platform forward. -/
theorem step_movesForward {s t : State} (h : step s = .next t) : MovesForward { s with env := s.env.tail } t := by
  rw [← State.popBoundary_state]
  unfold step at h
  split at h
  next => cases h; exact State.resetPulse_movesForward _
  next => exact State.acknowledge_movesForward h
  next => cases h; exact .refl _
  next => cases h
  next => exact State.runInstruction_movesForward h

/-- Settles O52: `step_movesForward`, field by field. -/
theorem stepOnlyMovesThePlatformForward : Obligations.StepOnlyMovesThePlatformForward := by
  intro s t h
  obtain ⟨launch, env, dma, outputs, draws⟩ := step_movesForward h
  exact ⟨launch, env, dma, outputs, draws⟩

end Sys2Proof.Machine
end

section
/-! What an instruction may write outside the registers A to L, memory and the platform: the flags (R28), SP (R24), PC
(R23) and the three control bits (R31, R33, R34). `footprint` reads it off the instruction's first byte in the terms of
Sys2Proof/Safety.lean, and `exec_within` says once that every instruction stays within its footprint: O38, O39, O41 and
O42 are its fields, and O51 takes the control bits from it. -/

namespace Sys2Proof.Machine

/-- What of SP, PC, the flags and the control bits may be written, and to what. By default: nothing, and EI_SHADOW is
cleared (R33). -/
structure Footprint where
  /-- S, Z, AC and P may be written. -/
  szap : Bool := false
  /-- CY may be written. -/
  cy : Bool := false
  /-- SP may be written. -/
  sp : Bool := false
  /-- How far PC moves; `none` for what may be a control transfer. -/
  passes : Option Word := none
  /-- What INTE becomes, where it is written. -/
  inte : Option Bool := none
  /-- What EI_SHADOW becomes. -/
  eiShadow : Bool := false
  /-- HALTED is set. -/
  halts : Bool := false

/-- What the rows of R28, R24, R23 and R31 to R34 let an instruction write. -/
def footprint (i : Instr) : Footprint where
  szap := writesSZAP (opcodeOf i)
  cy := writesCY (opcodeOf i)
  sp := mayWriteSP (opcodeOf i)
  passes := if mayTransfer (opcodeOf i) then none else some (BitVec.ofNat 16 (encode i).length)
  inte := if i = .ei then some true else if i = .di then some false else none
  eiShadow := decide (i = .ei)
  halts := decide (i = .hlt)

/-- From `s` to `t` nothing outside the footprint is written. Of a footprint that is written out, the `simp` lemmas
of the updates show each field. -/
structure StaysWithin (s t : State) (fp : Footprint) : Prop where
  szap : fp.szap = false → t.flags.s = s.flags.s ∧ t.flags.z = s.flags.z ∧ t.flags.ac = s.flags.ac ∧
    t.flags.p = s.flags.p
  cy : fp.cy = false → t.flags.cy = s.flags.cy
  sp : fp.sp = false → t.sp = s.sp
  pc : ∀ n, fp.passes = some n → t.pc = s.pc + n
  inte : t.inte = fp.inte.getD s.inte
  eiShadow : t.eiShadow = fp.eiShadow
  halted : t.halted = (fp.halts || s.halted)

/-- An answer is a fault, or a next state within the footprint. -/
inductive AnswersWithin (s : State) : Result → Footprint → Prop where
  | next {t : State} {fp : Footprint} (within : StaysWithin s t fp) : AnswersWithin s (.next t) fp
  | fault (r : Fault) (fp : Footprint) : AnswersWithin s (.fault r) fp

theorem AnswersWithin.staysWithin {s t : State} {fp : Footprint} (h : AnswersWithin s (.next t) fp) :
    StaysWithin s t fp := by
  cases h with
  | next within => exact within

/-! ### The operations that have no such laws yet -/

@[simp] theorem State.operand_sp (o : Operand8) (s : State) : (s.operand o).2.sp = s.sp := by
  cases o <;> simp [State.operand]
@[simp] theorem State.operand_pc (o : Operand8) (s : State) : (s.operand o).2.pc = s.pc := by
  cases o <;> simp [State.operand]
@[simp] theorem State.operand_flags (o : Operand8) (s : State) : (s.operand o).2.flags = s.flags := by
  cases o <;> simp [State.operand]
@[simp] theorem State.operand_inte (o : Operand8) (s : State) : (s.operand o).2.inte = s.inte := by
  cases o <;> simp [State.operand]
@[simp] theorem State.operand_halted (o : Operand8) (s : State) : (s.operand o).2.halted = s.halted := by
  cases o <;> simp [State.operand]

@[simp] theorem State.andAcc_sp (rule : Config.AcRule) (v : Byte) (s : State) : (s.andAcc rule v).sp = s.sp := rfl
@[simp] theorem State.andAcc_pc (rule : Config.AcRule) (v : Byte) (s : State) : (s.andAcc rule v).pc = s.pc := rfl
@[simp] theorem State.andAcc_inte (rule : Config.AcRule) (v : Byte) (s : State) : (s.andAcc rule v).inte = s.inte := rfl
@[simp] theorem State.andAcc_halted (rule : Config.AcRule) (v : Byte) (s : State) :
    (s.andAcc rule v).halted = s.halted := rfl

@[simp] theorem State.callTo_flags (len x : Word) (s : State) : (s.callTo len x).flags = s.flags := by
  simp [State.callTo]
@[simp] theorem State.callTo_inte (len x : Word) (s : State) : (s.callTo len x).inte = s.inte := by simp [State.callTo]
@[simp] theorem State.callTo_eiShadow (len x : Word) (s : State) : (s.callTo len x).eiShadow = false := rfl
@[simp] theorem State.callTo_halted (len x : Word) (s : State) : (s.callTo len x).halted = s.halted := by
  simp [State.callTo]

@[simp] theorem State.returnFrom_flags (s : State) : s.returnFrom.flags = s.flags := by simp [State.returnFrom]
@[simp] theorem State.returnFrom_inte (s : State) : s.returnFrom.inte = s.inte := by simp [State.returnFrom]
@[simp] theorem State.returnFrom_eiShadow (s : State) : s.returnFrom.eiShadow = false := rfl
@[simp] theorem State.returnFrom_halted (s : State) : s.returnFrom.halted = s.halted := by simp [State.returnFrom]

/-! ### The shared forms, by what they may write

Each answers one next state, made of updates whose laws say what they leave alone; what is written stands in the
footprint. -/

/-- `inr8` and `dcr8` give back the carry they are given (R144, R146). -/
@[simp] theorem inr8_cy (v : Byte) (f : Flags) : (inr8 v f).2.cy = f.cy := rfl
@[simp] theorem dcr8_cy (v : Byte) (f : Flags) : (dcr8 v f).2.cy = f.cy := rfl

section
variable (s : State)

theorem moveReg_within (r1 r2 : Reg8) : AnswersWithin s (moveReg r1 r2 s) { passes := some 1#16 } :=
  .next (by constructor <;> simp)
theorem moveToMem_within (r : Reg8) : AnswersWithin s (moveToMem r s) { passes := some 1#16 } :=
  .next (by constructor <;> simp)
theorem moveFromMem_within (r : Reg8) : AnswersWithin s (moveFromMem r s) { passes := some 1#16 } :=
  .next (by constructor <;> simp)
theorem moveImm_within (r : Reg8) (data : Byte) : AnswersWithin s (moveImm r data s) { passes := some 2#16 } :=
  .next (by constructor <;> simp)
theorem moveImmToMem_within (data : Byte) : AnswersWithin s (moveImmToMem data s) { passes := some 2#16 } :=
  .next (by constructor <;> simp)
theorem loadPairImm_within (p : RegPair) (data16 : Word) :
    AnswersWithin s (loadPairImm p data16 s) { sp := decide (p = .sp), passes := some 3#16 } :=
  .next (by constructor <;> simp +contextual)
theorem loadAccDirect_within (addr : Word) : AnswersWithin s (loadAccDirect addr s) { passes := some 3#16 } :=
  .next (by constructor <;> simp)
theorem storeAccDirect_within (addr : Word) : AnswersWithin s (storeAccDirect addr s) { passes := some 3#16 } :=
  .next (by constructor <;> simp)
theorem loadHlDirect_within (addr : Word) : AnswersWithin s (loadHlDirect addr s) { passes := some 3#16 } :=
  .next (by constructor <;> simp)
theorem storeHlDirect_within (addr : Word) : AnswersWithin s (storeHlDirect addr s) { passes := some 3#16 } :=
  .next (by constructor <;> simp)
theorem loadAccAt_within (p : RegPair) : AnswersWithin s (loadAccAt p s) { passes := some 1#16 } :=
  .next (by constructor <;> simp)
theorem storeAccAt_within (p : RegPair) : AnswersWithin s (storeAccAt p s) { passes := some 1#16 } :=
  .next (by constructor <;> simp)
theorem exchangeDeHl_within : AnswersWithin s (exchangeDeHl s) { passes := some 1#16 } :=
  .next (by constructor <;> simp)

theorem addOp_within (o : Operand8) :
    AnswersWithin s (addOp o s) { szap := true, cy := true, passes := some (operandLength o) } :=
  .next (by constructor <;> simp)
theorem adcOp_within (o : Operand8) :
    AnswersWithin s (adcOp o s) { szap := true, cy := true, passes := some (operandLength o) } :=
  .next (by constructor <;> simp)
theorem subOp_within (o : Operand8) :
    AnswersWithin s (subOp o s) { szap := true, cy := true, passes := some (operandLength o) } :=
  .next (by constructor <;> simp)
theorem sbbOp_within (o : Operand8) :
    AnswersWithin s (sbbOp o s) { szap := true, cy := true, passes := some (operandLength o) } :=
  .next (by constructor <;> simp)
theorem incReg_within (r : Reg8) : AnswersWithin s (incReg r s) { szap := true, passes := some 1#16 } :=
  .next (by constructor <;> simp)
theorem incMem_within : AnswersWithin s (incMem s) { szap := true, passes := some 1#16 } :=
  .next (by constructor <;> simp)
theorem decReg_within (r : Reg8) : AnswersWithin s (decReg r s) { szap := true, passes := some 1#16 } :=
  .next (by constructor <;> simp)
theorem decMem_within : AnswersWithin s (decMem s) { szap := true, passes := some 1#16 } :=
  .next (by constructor <;> simp)
theorem incPair_within (p : RegPair) :
    AnswersWithin s (incPair p s) { sp := decide (p = .sp), passes := some 1#16 } :=
  .next (by constructor <;> simp +contextual)
theorem decPair_within (p : RegPair) :
    AnswersWithin s (decPair p s) { sp := decide (p = .sp), passes := some 1#16 } :=
  .next (by constructor <;> simp +contextual)
theorem doubleAdd_within (p : RegPair) : AnswersWithin s (doubleAdd p s) { cy := true, passes := some 1#16 } :=
  .next (by constructor <;> simp)
theorem decimalAdjust_within :
    AnswersWithin s (decimalAdjust s) { szap := true, cy := true, passes := some 1#16 } :=
  .next (by constructor <;> simp)

theorem anaOp_within (o : Operand8) :
    AnswersWithin s (anaOp o s) { szap := true, cy := true, passes := some (operandLength o) } :=
  .next (by constructor <;> simp)
theorem aniOp_within (data : Byte) :
    AnswersWithin s (aniOp data s) { szap := true, cy := true, passes := some 2#16 } :=
  .next (by constructor <;> simp)
theorem xraOp_within (o : Operand8) :
    AnswersWithin s (xraOp o s) { szap := true, cy := true, passes := some (operandLength o) } :=
  .next (by constructor <;> simp)
theorem oraOp_within (o : Operand8) :
    AnswersWithin s (oraOp o s) { szap := true, cy := true, passes := some (operandLength o) } :=
  .next (by constructor <;> simp)
theorem cmpOp_within (o : Operand8) :
    AnswersWithin s (cmpOp o s) { szap := true, cy := true, passes := some (operandLength o) } :=
  .next (by constructor <;> simp)
theorem rotateLeft_within : AnswersWithin s (rotateLeft s) { cy := true, passes := some 1#16 } :=
  .next (by constructor <;> simp)
theorem rotateRight_within : AnswersWithin s (rotateRight s) { cy := true, passes := some 1#16 } :=
  .next (by constructor <;> simp)
theorem rotateLeftCarry_within : AnswersWithin s (rotateLeftCarry s) { cy := true, passes := some 1#16 } :=
  .next (by constructor <;> simp)
theorem rotateRightCarry_within : AnswersWithin s (rotateRightCarry s) { cy := true, passes := some 1#16 } :=
  .next (by constructor <;> simp)
theorem complementAcc_within : AnswersWithin s (complementAcc s) { passes := some 1#16 } :=
  .next (by constructor <;> simp)
theorem complementCarry_within : AnswersWithin s (complementCarry s) { cy := true, passes := some 1#16 } :=
  .next (by constructor <;> simp)
theorem setCarry_within : AnswersWithin s (setCarry s) { cy := true, passes := some 1#16 } :=
  .next (by constructor <;> simp)

theorem jumpAlways_within (addr : Word) : AnswersWithin s (jumpAlways addr s) {} := .next (by constructor <;> simp)
theorem jumpToHl_within : AnswersWithin s (jumpToHl s) {} := .next (by constructor <;> simp)
theorem callAlways_within (addr : Word) : AnswersWithin s (callAlways addr s) { sp := true } :=
  .next (by constructor <;> simp)
theorem restart_within (n : Octal) : AnswersWithin s (restart n s) { sp := true } := .next (by constructor <;> simp)
theorem returnAlways_within : AnswersWithin s (returnAlways s) { sp := true } := .next (by constructor <;> simp)

theorem jumpOn_within (cond : Cond) (addr : Word) : AnswersWithin s (jumpOn cond addr s) {} := by
  refine .next ?_
  split
  case isTrue => constructor <;> simp
  case isFalse => constructor <;> simp

theorem callOn_within (cond : Cond) (addr : Word) : AnswersWithin s (callOn cond addr s) { sp := true } := by
  refine .next ?_
  split
  case isTrue => constructor <;> simp
  case isFalse => constructor <;> simp

theorem returnOn_within (cond : Cond) : AnswersWithin s (returnOn cond s) { sp := true } := by
  refine .next ?_
  split
  case isTrue => constructor <;> simp
  case isFalse => constructor <;> simp

theorem unlistedElse_within (op : Byte) {meaning : Result} {fp : Footprint} (h : AnswersWithin s meaning fp) :
    AnswersWithin s (unlistedElse op meaning s) fp := by
  unfold unlistedElse
  split
  · exact .fault _ fp
  · exact h

theorem pushPair_within (p : StackPair) :
    AnswersWithin s (pushPair p s) { sp := true, passes := some 1#16 } := .next (by constructor <;> simp)
theorem popPair_within (p : StackPair) :
    AnswersWithin s (popPair p s)
      { szap := decide (p = .psw), cy := decide (p = .psw), sp := true, passes := some 1#16 } :=
  .next (by constructor <;> simp +contextual)
theorem exchangeTop_within : AnswersWithin s (exchangeTop s) { passes := some 1#16 } :=
  .next (by constructor <;> simp)
theorem loadSpFromHl_within : AnswersWithin s (loadSpFromHl s) { sp := true, passes := some 1#16 } :=
  .next (by constructor <;> simp)
theorem inputPort_within (port : Byte) : AnswersWithin s (inputPort port s) { passes := some 2#16 } :=
  .next (by constructor <;> simp)
theorem outputPort_within (port : Byte) : AnswersWithin s (outputPort port s) { passes := some 2#16 } :=
  .next (by constructor <;> simp)
theorem enableInterrupts_within :
    AnswersWithin s (enableInterrupts s) { passes := some 1#16, inte := some true, eiShadow := true } :=
  .next (by constructor <;> simp)
theorem disableInterrupts_within :
    AnswersWithin s (disableInterrupts s) { passes := some 1#16, inte := some false } :=
  .next (by constructor <;> simp)
theorem halt_within : AnswersWithin s (halt s) { passes := some 1#16, halts := true } :=
  .next (by constructor <;> simp)
theorem noOperation_within : AnswersWithin s (noOperation s) { passes := some 1#16 } :=
  .next (by constructor <;> simp)

end

/-! ### Every instruction -/

/-- With the encoding written out, the terms of the footprint are about a first byte that is a literal, and evaluate. -/
theorem AnswersWithin.ofEncoding {i : Instr} {s : State} {r : Result} {op : Byte} {rest : List Byte}
    (encoding : encode i = op :: rest)
    (h : AnswersWithin s r
      { szap := writesSZAP op, cy := writesCY op, sp := mayWriteSP op
        passes := if mayTransfer op then none else some (BitVec.ofNat 16 (op :: rest).length)
        inte := if i = .ei then some true else if i = .di then some false else none
        eiShadow := decide (i = .ei), halts := decide (i = .hlt) }) :
    AnswersWithin s r (footprint i) := by
  have first : opcodeOf i = op := by rw [opcodeOf, encoding, List.headD_cons]
  rw [footprint, first, encoding]
  exact h

/-- Every instruction stays within its footprint: its row has a shared form, and the form's footprint is the one that
the row's first byte gives. -/
theorem exec_within (i : Instr) (s : State) : AnswersWithin s (exec i s) (footprint i) := by
  cases i with
  | movBB | movBC | movBD | movBE | movBH | movBL | movBA | movCB | movCC | movCD | movCE | movCH | movCL | movCA
  | movDB | movDC | movDD | movDE | movDH | movDL | movDA | movEB | movEC | movED | movEE | movEH | movEL | movEA
  | movHB | movHC | movHD | movHE | movHH | movHL | movHA | movLB | movLC | movLD | movLE | movLH | movLL | movLA
  | movAB | movAC | movAD | movAE | movAH | movAL | movAA => exact .ofEncoding rfl (moveReg_within s _ _)
  | movMB | movMC | movMD | movME | movMH | movML | movMA => exact .ofEncoding rfl (moveToMem_within s _)
  | movBM | movCM | movDM | movEM | movHM | movLM | movAM => exact .ofEncoding rfl (moveFromMem_within s _)
  | mviB data | mviC data | mviD data | mviE data | mviH data | mviL data | mviA data =>
    exact .ofEncoding rfl (moveImm_within s _ data)
  | mviM data => exact .ofEncoding rfl (moveImmToMem_within s data)
  | lxiB data16 | lxiD data16 | lxiH data16 | lxiSP data16 => exact .ofEncoding rfl (loadPairImm_within s _ data16)
  | lda addr => exact .ofEncoding rfl (loadAccDirect_within s addr)
  | sta addr => exact .ofEncoding rfl (storeAccDirect_within s addr)
  | lhld addr => exact .ofEncoding rfl (loadHlDirect_within s addr)
  | shld addr => exact .ofEncoding rfl (storeHlDirect_within s addr)
  | ldaxB | ldaxD => exact .ofEncoding rfl (loadAccAt_within s _)
  | staxB | staxD => exact .ofEncoding rfl (storeAccAt_within s _)
  | xchg => exact .ofEncoding rfl (exchangeDeHl_within s)
  | addB | addC | addD | addE | addH | addL | addA | addM | adi _ => exact .ofEncoding rfl (addOp_within s _)
  | adcB | adcC | adcD | adcE | adcH | adcL | adcA | adcM | aci _ => exact .ofEncoding rfl (adcOp_within s _)
  | subB | subC | subD | subE | subH | subL | subA | subM | sui _ => exact .ofEncoding rfl (subOp_within s _)
  | sbbB | sbbC | sbbD | sbbE | sbbH | sbbL | sbbA | sbbM | sbi _ => exact .ofEncoding rfl (sbbOp_within s _)
  | inrB | inrC | inrD | inrE | inrH | inrL | inrA => exact .ofEncoding rfl (incReg_within s _)
  | inrM => exact .ofEncoding rfl (incMem_within s)
  | dcrB | dcrC | dcrD | dcrE | dcrH | dcrL | dcrA => exact .ofEncoding rfl (decReg_within s _)
  | dcrM => exact .ofEncoding rfl (decMem_within s)
  | inxB | inxD | inxH | inxSP => exact .ofEncoding rfl (incPair_within s _)
  | dcxB | dcxD | dcxH | dcxSP => exact .ofEncoding rfl (decPair_within s _)
  | dadB | dadD | dadH | dadSP => exact .ofEncoding rfl (doubleAdd_within s _)
  | daa => exact .ofEncoding rfl (decimalAdjust_within s)
  | anaB | anaC | anaD | anaE | anaH | anaL | anaA | anaM => exact .ofEncoding rfl (anaOp_within s _)
  | ani data => exact .ofEncoding rfl (aniOp_within s data)
  | xraB | xraC | xraD | xraE | xraH | xraL | xraA | xraM | xri _ => exact .ofEncoding rfl (xraOp_within s _)
  | oraB | oraC | oraD | oraE | oraH | oraL | oraA | oraM | ori _ => exact .ofEncoding rfl (oraOp_within s _)
  | cmpB | cmpC | cmpD | cmpE | cmpH | cmpL | cmpA | cmpM | cpi _ => exact .ofEncoding rfl (cmpOp_within s _)
  | rlc => exact .ofEncoding rfl (rotateLeft_within s)
  | rrc => exact .ofEncoding rfl (rotateRight_within s)
  | ral => exact .ofEncoding rfl (rotateLeftCarry_within s)
  | rar => exact .ofEncoding rfl (rotateRightCarry_within s)
  | cma => exact .ofEncoding rfl (complementAcc_within s)
  | cmc => exact .ofEncoding rfl (complementCarry_within s)
  | stc => exact .ofEncoding rfl (setCarry_within s)
  | jmp addr => exact .ofEncoding rfl (jumpAlways_within s addr)
  | jnz addr | jz addr | jnc addr | jc addr | jpo addr | jpe addr | jp addr | jm addr =>
    exact .ofEncoding rfl (jumpOn_within s _ addr)
  | call addr => exact .ofEncoding rfl (callAlways_within s addr)
  | cnz addr | cz addr | cnc addr | cc addr | cpo addr | cpe addr | cp addr | cm addr =>
    exact .ofEncoding rfl (callOn_within s _ addr)
  | ret => exact .ofEncoding rfl (returnAlways_within s)
  | rnz | rz | rnc | rc | rpo | rpe | rp | rm => exact .ofEncoding rfl (returnOn_within s _)
  | rst0 | rst1 | rst2 | rst3 | rst4 | rst5 | rst6 | rst7 => exact .ofEncoding rfl (restart_within s _)
  | pchl => exact .ofEncoding rfl (jumpToHl_within s)
  | unlisted08 | unlisted10 | unlisted18 | unlisted20 | unlisted28 | unlisted30 | unlisted38 =>
    exact .ofEncoding rfl (unlistedElse_within s _ (noOperation_within s))
  | unlistedCB addr => exact .ofEncoding rfl (unlistedElse_within s _ (jumpAlways_within s addr))
  | unlistedD9 => exact .ofEncoding rfl (unlistedElse_within s _ (returnAlways_within s))
  | unlistedDD addr | unlistedED addr | unlistedFD addr =>
    exact .ofEncoding rfl (unlistedElse_within s _ (callAlways_within s addr))
  | inPort port => exact .ofEncoding rfl (inputPort_within s port)
  | outPort port => exact .ofEncoding rfl (outputPort_within s port)
  | pushB | pushD | pushH | pushPSW => exact .ofEncoding rfl (pushPair_within s _)
  | popB | popD | popH | popPSW => exact .ofEncoding rfl (popPair_within s _)
  | xthl => exact .ofEncoding rfl (exchangeTop_within s)
  | sphl => exact .ofEncoding rfl (loadSpFromHl_within s)
  | ei => exact .ofEncoding rfl (enableInterrupts_within s)
  | di => exact .ofEncoding rfl (disableInterrupts_within s)
  | hlt => exact .ofEncoding rfl (halt_within s)
  | nop => exact .ofEncoding rfl (noOperation_within s)

/-- A completed instruction has stayed within its footprint. -/
theorem exec_staysWithin {i : Instr} {s t : State} (h : exec i s = .next t) : StaysWithin s t (footprint i) :=
  (h ▸ exec_within i s).staysWithin

end Sys2Proof.Machine
end

section
/-! O51: by its shared form an instruction keeps memory in its canonical form (R50), by its footprint it keeps the
control bits consistent (R33, R241). The other steps write no byte but by the bus, and leave EI_SHADOW 0 or as it was. -/

namespace Sys2Proof.Machine

theorem State.operand_wf (o : Operand8) {s : State} (h : Memory.wf s.mem = true) :
    Memory.wf (s.operand o).2.mem = true := by
  cases o with
  | reg r => exact h
  | mem => exact State.readMem_wf s.hl h
  | imm v => exact h

theorem State.callTo_wf (len target : Word) {s : State} (h : Memory.wf s.mem = true) :
    Memory.wf (s.callTo len target).mem = true := State.push16_wf (s.pc + len) h

theorem State.returnFrom_wf {s : State} (h : Memory.wf s.mem = true) : Memory.wf s.returnFrom.mem = true :=
  State.pop16_wf h

theorem State.fetch_wf {s : State} (h : Memory.wf s.mem = true) : Memory.wf s.fetch.2.mem = true := by
  have one := State.readMem_wf s.pc h
  have two := State.readMem_wf (s.pc + 1#16) one
  have three := State.readMem_wf (s.pc + 2#16) two
  unfold State.fetch
  dsimp only
  split
  · exact three
  · split
    · exact two
    · exact one

/-- Each shared form keeps the canonical form: its accesses do, and its changes of registers leave memory alone. -/
theorem ExecForm.wf {s t : State} {r : Result} (form : ExecForm s r) (answer : r = .next t)
    (h : Memory.wf s.mem = true) : Memory.wf t.mem = true := by
  cases form with
  | moveReg | moveImm | loadPairImm | exchangeDeHl | incReg | decReg | incPair | decPair | doubleAdd | decimalAdjust
  | rotateLeft | rotateRight | rotateLeftCarry | rotateRightCarry | complementAcc | complementCarry | setCarry
  | jumpAlways | jumpToHl | loadSpFromHl | enableInterrupts | disableInterrupts | halt | noOperation =>
    cases answer
    simpa using h
  | aniOp =>
    cases answer
    exact h
  | addOp o | adcOp o | subOp o | sbbOp o | anaOp o | xraOp o | oraOp o | cmpOp o =>
    cases answer
    exact State.operand_wf o h
  | moveFromMem | loadAccDirect | loadAccAt =>
    cases answer
    simpa using State.readMem_wf _ h
  | moveToMem | moveImmToMem | storeAccDirect | storeAccAt =>
    cases answer
    exact State.writeMem_wf _ _ h
  | incMem | decMem =>
    cases answer
    exact State.writeMem_wf _ _ (State.readMem_wf _ h)
  | loadHlDirect addr =>
    cases answer
    exact State.readMem16_wf addr h
  | storeHlDirect addr =>
    cases answer
    exact State.writeMem16_wf addr s.hl h
  | exchangeTop =>
    cases answer
    exact State.writeMem_wf _ _ (State.writeMem_wf _ _ (State.readMem16_wf s.sp h))
  | inputPort port =>
    cases answer
    exact State.ioRead_wf port h
  | outputPort port =>
    cases answer
    exact State.ioWrite_wf port s.a h
  | pushPair p =>
    cases answer
    exact State.push16_wf (s.stackPair p) h
  | popPair p =>
    cases answer
    simpa using State.pop16_wf h
  | callAlways | restart =>
    cases answer
    exact State.callTo_wf _ _ h
  | returnAlways =>
    cases answer
    exact State.returnFrom_wf h
  | jumpOn cond addr =>
    cases answer
    split
    · exact h
    · exact h
  | callOn cond addr =>
    cases answer
    split
    · exact State.callTo_wf _ _ h
    · exact h
  | returnOn cond =>
    cases answer
    split
    · exact State.returnFrom_wf h
    · exact h
  | unlistedFault => cases answer

theorem exec_wf {i : Instr} {s t : State} (h : exec i s = .next t) (wf : Memory.wf s.mem = true) :
    Memory.wf t.mem = true := (exec_form i s).wf h wf

@[simp] theorem State.fetch_halted (s : State) : s.fetch.2.halted = s.halted := by
  unfold State.fetch
  dsimp only
  split
  · simp
  · split <;> simp

/-- While the machine runs: only EI leaves EI_SHADOW set, and it sets INTE and does not halt. In the halt EI would break
the invariant; no instruction is executed there. -/
theorem exec_inv {i : Instr} {s t : State} (h : exec i s = .next t) (running : s.halted = false)
    (wf : Memory.wf s.mem = true) : t.Inv := by
  have within := exec_staysWithin h
  have shadow : t.eiShadow = decide (i = .ei) := within.eiShadow
  refine ⟨exec_wf h wf, fun set => ?inte, fun halted => ?shadow⟩
  case inte =>
    obtain rfl : i = .ei := by simpa [shadow] using set
    exact within.inte
  case shadow =>
    obtain rfl : i = .hlt := by simpa [within.halted, footprint, running] using halted
    exact shadow

theorem State.runInstruction_inv {s t : State} (h : s.runInstruction = .next t) (running : s.halted = false)
    (inv : s.Inv) : t.Inv := by
  obtain ⟨wf, -, -⟩ := inv
  exact exec_inv h (by rw [State.fetch_halted, running]) (State.fetch_wf wf)

/-- An acknowledge that completes leaves EI_SHADOW and HALTED 0 (R236). -/
theorem State.acknowledge_inv {op : Byte} {s t : State} (h : s.acknowledge op = .next t) (inv : s.Inv) : t.Inv := by
  obtain ⟨wf, -, -⟩ := inv
  unfold State.acknowledge at h
  split at h
  · cases h
    exact ⟨State.push16_wf _ (State.busSlot_wf wf), by simp [State.takeInterrupt], by simp [State.takeInterrupt]⟩
  · cases h

theorem State.resetPulse_inv {s : State} (inv : s.Inv) : s.resetPulse.Inv := by
  obtain ⟨wf, -, -⟩ := inv
  exact ⟨wf, by simp [State.resetPulse], by simp [State.resetPulse]⟩

theorem State.popBoundary_inv {s : State} (inv : s.Inv) : s.popBoundary.2.Inv := by
  rw [State.popBoundary_state]
  exact inv

/-- An instruction is fetched only while the machine is not halted (R34). -/
theorem State.running_of_fetch {b : Boundary} {s : State} (h : s.boundaryAction b = .fetch) : s.halted = false := by
  have unprompted : s.unprompted = .fetch → s.halted = false := by
    unfold State.unprompted
    split
    next => split <;> simp
    next running => simpa using running
  unfold State.boundaryAction at h
  split at h
  · cases h
  · split at h
    · split at h
      · cases h
      · exact unprompted h
    · exact unprompted h

/-- Settles O51, by what the step does at the boundary. -/
theorem stepKeepsTheInvariant : Obligations.StepKeepsTheInvariant := by
  intro s t inv h
  have popped := State.popBoundary_inv inv
  unfold step at h
  split at h
  next => cases h; exact State.resetPulse_inv popped
  next => exact State.acknowledge_inv h popped
  next => cases h; exact popped
  next => cases h
  next fetch => exact State.runInstruction_inv h (State.running_of_fetch fetch) popped

end Sys2Proof.Machine
end

section
/-! O38, O39, O41, O42: the fields of `exec_staysWithin`. -/

namespace Sys2Proof.Machine

/-- Settles O38: the flags' fields of the footprint. -/
theorem flagsChangeOnlyInTheRowsOfR28 : Obligations.FlagsChangeOnlyInTheRowsOfR28 := by
  intro i s t h
  have within := exec_staysWithin h
  exact ⟨within.szap, within.cy⟩

/-- Settles O39: the control bits' fields of the footprint. -/
theorem controlBitsOfEveryInstruction : Obligations.ControlBitsOfEveryInstruction := by
  intro i s t h
  have within := exec_staysWithin h
  refine ⟨?inte, ?eiShadow, ?halted⟩
  case inte => rw [within.inte, footprint]; split_ifs <;> rfl
  case eiShadow => rw [within.eiShadow, footprint, decide_eq_true_iff]
  case halted => rw [within.halted]; by_cases halts : i = .hlt <;> simp [footprint, halts]

/-- Settles O41: SP's field of the footprint. -/
theorem stackPointerWritersAreTheNamedOnes : Obligations.StackPointerWritersAreTheNamedOnes :=
  fun _ _ _ h => (exec_staysWithin h).sp

/-- Settles O42: PC's field of the footprint, the addition read as one of numbers modulo 65536. -/
theorem programCounterPassesTheInstruction : Obligations.ProgramCounterPassesTheInstruction := by
  intro i s t h noTransfer
  have pc : t.pc = s.pc + BitVec.ofNat 16 (encode i).length :=
    (exec_staysWithin h).pc _ (by simp [footprint, noTransfer])
  rw [pc, BitVec.toNat_add, BitVec.toNat_ofNat, Nat.add_mod_mod]

end Sys2Proof.Machine
end

section
/-! O45, O48: the boundary where no RESET comes and interrupts are not effective, or nothing is presented. -/

namespace Sys2Proof.Machine

theorem State.accepting_eq_false {s : State} : s.accepting = false ↔ s.inte = false ∨ s.eiShadow = true := by
  simp [State.accepting, or_iff_not_imp_left]

/-- While interrupts are not effective a request makes no difference to the action (R234). -/
theorem State.boundaryAction_heldOff {b : Boundary} {s : State} (h : s.accepting = false) :
    s.boundaryAction b = s.boundaryAction { b with int := none } := by
  unfold State.boundaryAction
  cases b.int with
  | none => rfl
  | some op => simp [h]

/-- Settles O45: with or without the request the boundary leaves the same state and the same action. -/
theorem interruptIsHeldOff : Obligations.InterruptIsHeldOff := by
  intro s b later entry heldOff
  have popped : s.popBoundary = (b, { s with env := later }) := by rw [State.popBoundary, entry]
  have notAccepting : State.accepting { s with env := later } = false := State.accepting_eq_false.mpr heldOff
  unfold step
  rw [popped, State.boundaryAction_heldOff notAccepting]
  rfl

/-- Without RESET and without an effective request the action is the unprompted one (R234, R240). -/
theorem State.boundaryAction_eq_unprompted {b : Boundary} {s : State} (noReset : b.reset = false)
    (noInterrupt : b.int = none ∨ s.accepting = false) : s.boundaryAction b = s.unprompted := by
  unfold State.boundaryAction
  rw [if_neg (by simp [noReset])]
  cases request : b.int with
  | none => rfl
  | some op =>
    have notAccepting : s.accepting = false := by simpa [request] using noInterrupt
    simp [notAccepting]

theorem State.popBoundary_boundary (s : State) : s.popBoundary.1 = s.env.headD {} := by
  unfold State.popBoundary
  split
  next empty => rw [empty, List.headD_nil]
  next b rest entry => rw [entry, List.headD_cons]

/-- Where nothing is due the action is the unprompted one of the state with the entry of `env` used up. -/
theorem State.boundaryAction_of_quiet {s : State} (quiet : s.quiet) :
    s.popBoundary.2.boundaryAction s.popBoundary.1 = State.unprompted { s with env := s.env.tail } := by
  rw [State.popBoundary_state, State.popBoundary_boundary]
  cases entry : s.env with
  | nil => exact State.boundaryAction_eq_unprompted rfl (.inl rfl)
  | cons b later =>
    obtain ⟨noReset, noInterrupt⟩ := quiet b (by rw [entry, List.head?_cons])
    exact State.boundaryAction_eq_unprompted noReset (noInterrupt.imp_right State.accepting_eq_false.mpr)

/-- A step of a halted machine where nothing is due. -/
theorem step_of_halted {s : State} (halted : s.halted = true) (quiet : s.quiet) :
    step s = if s.env.tail.any s.wakes then .next { s with env := s.env.tail } else .fault .haltedForever := by
  have action : s.popBoundary.2.boundaryAction s.popBoundary.1 = if s.env.tail.any s.wakes then .wait else .stuck := by
    rw [State.boundaryAction_of_quiet quiet, State.unprompted, if_pos halted]
    rfl
  unfold step
  rw [action, State.popBoundary_state]
  cases s.env.tail.any s.wakes with
  | true => rfl
  | false => rfl

theorem State.wakes_iff {s : State} {b : Boundary} :
    s.wakes b = true ↔ b.reset = true ∨ (s.inte = true ∧ s.eiShadow = false ∧ b.int ≠ none) := by
  simp [State.wakes, State.accepting, Option.isSome_iff_ne_none, and_assoc]

/-- Settles O48: `step_of_halted`, with `wakes` in the words of the statement. -/
theorem haltedMachineWaitsOrIsStuck : Obligations.HaltedMachineWaitsOrIsStuck := by
  intro s halted quiet
  rw [step_of_halted halted quiet]
  refine ⟨fun ⟨b, toCome, ends⟩ => ?waits, fun none => ?stuck⟩
  case waits =>
    exact if_pos (List.any_eq_true.mpr ⟨b, toCome, State.wakes_iff.mpr ends⟩)
  case stuck =>
    refine if_neg fun wakes => ?_
    obtain ⟨b, toCome, ends⟩ := List.any_eq_true.mp wakes
    obtain ⟨noReset, noInterrupt⟩ := none b toCome
    rcases State.wakes_iff.mp ends with reset | ⟨inte, shadow, request⟩
    · simp [noReset] at reset
    · simp [inte, shadow, request] at noInterrupt

end Sys2Proof.Machine
end

section
/-! O25, O49, O50: the conditions, and the reset state. -/

namespace Sys2Proof.Machine

/-- Settles O25: each condition is its flag or the flag's negation, and the encodings are written out in the table. -/
theorem conditionsTestTheirFlag : Obligations.ConditionsTestTheirFlag := by
  intro f addr
  refine ⟨?nz, ?z, ?nc, ?c, ?po, ?pe, ?p, ?m, ?jumps, ?calls, ?returns⟩
  case nz | nc | po | p => simp [condHolds]
  case z | c | pe | m => exact Iff.rfl
  case jumps | calls | returns => rfl

/-- Settles O49: the values stand in `State.reset` (R37, R261). -/
theorem resetGivesItsFourValues : Obligations.ResetGivesItsFourValues := by
  refine ⟨?pc, ?inte, ?eiShadow, ?halted, ?mem⟩
  all_goals rfl

/-- Settles O50: memory lists no cell, and EI_SHADOW is 0. -/
theorem resetMeetsTheInvariant : Obligations.ResetMeetsTheInvariant := by
  have noShadow : State.reset.eiShadow = false := rfl
  exact ⟨State.reset_mem_wf, fun shadow => absurd shadow (by simp [noShadow]), fun _ => noShadow⟩

end Sys2Proof.Machine
end

section
/-! The memory an instruction writes while no external bus master is scheduled (R55). `WritesOnly xs s t`: from `s` to `t`
only the cells at `xs` may change. It composes along a sequence of accesses, every operation on the bus has it, and a
change of registers does not matter to it; `exec_writes` says once that every instruction has it at the addresses its
meaning stores to. -/

namespace Sys2Proof.Machine

/-- While no external bus master is scheduled: none gets scheduled, and every cell but those at `xs` reads as before. -/
def WritesOnly (xs : List Word) (s t : State) : Prop := s.dma = [] → t.dma = [] ∧ sameMemoryBut xs s t

theorem sameMemoryBut_of_mem {s t : State} (xs : List Word) (h : t.mem = s.mem) : sameMemoryBut xs s t :=
  fun x _ => State.peek_congr h x

/-- A change of registers and control bits writes no memory. -/
theorem WritesOnly.ofRegisters {s t : State} (mem : t.mem = s.mem := by rfl) (dma : t.dma = s.dma := by rfl) :
    WritesOnly [] s t := fun plain => ⟨dma.trans plain, sameMemoryBut_of_mem [] mem⟩

theorem WritesOnly.trans {xs ys : List Word} {s t u : State} (h : WritesOnly xs s t) (h' : WritesOnly ys t u) :
    WritesOnly (xs ++ ys) s u := by
  intro plain
  obtain ⟨plain', first⟩ := h plain
  obtain ⟨plain'', second⟩ := h' plain'
  refine ⟨plain'', fun x outside => ?_⟩
  obtain ⟨notFirst, notSecond⟩ : x ∉ xs ∧ x ∉ ys := by simpa using outside
  exact (second x notSecond).trans (first x notFirst)

/-- What an instruction does to the registers after its accesses does not matter. -/
theorem WritesOnly.thenRegisters {xs : List Word} {s t u : State} (h : WritesOnly xs s t)
    (mem : u.mem = t.mem := by rfl) (dma : u.dma = t.dma := by rfl) : WritesOnly xs s u := by
  have both := h.trans (.ofRegisters mem dma)
  rwa [List.append_nil] at both

/-! ### The operations on the bus -/

theorem State.readMem_writes (x : Word) (s : State) : WritesOnly [] s (s.readMem x).2 :=
  fun plain => ⟨by simp [plain], sameMemoryBut_of_mem [] (State.readMem_plain plain)⟩

theorem State.writeMem_writes (x : Word) (v : Byte) (s : State) : WritesOnly [x] s (s.writeMem x v) := by
  refine fun plain => ⟨by simp [plain], fun y outside => ?_⟩
  have other : y ≠ x := List.ne_of_not_mem_cons outside
  rw [State.writeMem_peek plain, if_neg fun ⟨same, _⟩ => other same]

theorem State.ioRead_writes (p : Byte) (s : State) : WritesOnly [] s (s.ioRead p).2 :=
  fun plain => ⟨by simp [plain], sameMemoryBut_of_mem [] (by simp [plain])⟩

theorem State.ioWrite_writes (p v : Byte) (s : State) : WritesOnly [] s (s.ioWrite p v) :=
  fun plain => ⟨by simp [plain], sameMemoryBut_of_mem [] (by simp [plain])⟩

theorem State.readMem16_writes (x : Word) (s : State) : WritesOnly [] s (s.readMem16 x).2 :=
  (State.readMem_writes x s).trans (State.readMem_writes _ _)

theorem State.writeMem16_writes (x v : Word) (s : State) : WritesOnly [x, x + 1#16] s (s.writeMem16 x v) :=
  (State.writeMem_writes x _ s).trans (State.writeMem_writes _ _ _)

theorem State.push16_writes (v : Word) (s : State) : WritesOnly [s.sp - 1#16, s.sp - 2#16] s (s.push16 v) :=
  have high := State.writeMem_writes (s.sp - 1#16) (hiByte v) s
  have both := high.trans (State.writeMem_writes (s.sp - 2#16) (loByte v) _)
  both.thenRegisters

theorem State.pop16_writes (s : State) : WritesOnly [] s s.pop16.2 :=
  (State.readMem16_writes s.sp s).thenRegisters

theorem State.callTo_writes (len target : Word) (s : State) :
    WritesOnly [s.sp - 1#16, s.sp - 2#16] s (s.callTo len target) :=
  (State.push16_writes (s.pc + len) s).thenRegisters

theorem State.returnFrom_writes (s : State) : WritesOnly [] s s.returnFrom := (State.pop16_writes s).thenRegisters

/-! ### The shared forms with accesses of their own, by the addresses they store to -/

/-- An answer is a fault, or a next state before which only the cells at `xs` may have been written. -/
inductive AnswersWriting (s : State) : List Word → Result → Prop where
  | next {xs : List Word} {t : State} (writes : WritesOnly xs s t) : AnswersWriting s xs (.next t)
  | fault (xs : List Word) (r : Fault) : AnswersWriting s xs (.fault r)

theorem AnswersWriting.writesOnly {xs : List Word} {s t : State} (h : AnswersWriting s xs (.next t)) :
    WritesOnly xs s t := by
  cases h with
  | next writes => exact writes

section
variable (s : State)

theorem moveToMem_writes (r : Reg8) : AnswersWriting s [s.hl] (moveToMem r s) :=
  .next (State.writeMem_writes s.hl (s.reg r) s).thenRegisters
theorem moveImmToMem_writes (data : Byte) : AnswersWriting s [s.hl] (moveImmToMem data s) :=
  .next (State.writeMem_writes s.hl data s).thenRegisters
theorem loadAccDirect_writes (addr : Word) : AnswersWriting s [] (loadAccDirect addr s) :=
  .next (State.readMem_writes addr s).thenRegisters
theorem storeAccDirect_writes (addr : Word) : AnswersWriting s [addr] (storeAccDirect addr s) :=
  .next (State.writeMem_writes addr s.a s).thenRegisters
theorem loadHlDirect_writes (addr : Word) : AnswersWriting s [] (loadHlDirect addr s) :=
  .next (State.readMem16_writes addr s).thenRegisters
theorem storeHlDirect_writes (addr : Word) : AnswersWriting s [addr, addr + 1#16] (storeHlDirect addr s) :=
  .next (State.writeMem16_writes addr s.hl s).thenRegisters
theorem loadAccAt_writes (p : RegPair) : AnswersWriting s [] (loadAccAt p s) :=
  .next (State.readMem_writes (s.pair p) s).thenRegisters
theorem storeAccAt_writes (p : RegPair) : AnswersWriting s [s.pair p] (storeAccAt p s) :=
  .next (State.writeMem_writes (s.pair p) s.a s).thenRegisters


theorem incMem_writes : AnswersWriting s [s.hl] (incMem s) :=
  have read := State.readMem_writes s.hl s
  .next (read.trans (State.writeMem_writes s.hl (inr8 (s.readMem s.hl).1 s.flags).1 _)).thenRegisters
theorem decMem_writes : AnswersWriting s [s.hl] (decMem s) :=
  have read := State.readMem_writes s.hl s
  .next (read.trans (State.writeMem_writes s.hl (dcr8 (s.readMem s.hl).1 s.flags).1 _)).thenRegisters

theorem callAlways_writes (addr : Word) : AnswersWriting s [s.sp - 1#16, s.sp - 2#16] (callAlways addr s) :=
  .next (State.callTo_writes 3#16 addr s)
theorem restart_writes (n : Octal) : AnswersWriting s [s.sp - 1#16, s.sp - 2#16] (restart n s) :=
  .next (State.callTo_writes 1#16 (restartTarget n) s)
theorem returnAlways_writes : AnswersWriting s [] (returnAlways s) := .next (State.returnFrom_writes s)

theorem jumpOn_writes (cond : Cond) (addr : Word) : AnswersWriting s [] (jumpOn cond addr s) := by
  refine .next ?_
  split
  case isTrue => exact .ofRegisters
  case isFalse => exact .ofRegisters

/-- A conditional call stores only where its condition holds (R193). -/
theorem callOn_writes (cond : Cond) (addr : Word) :
    AnswersWriting s (if condHolds cond s.flags then [s.sp - 1#16, s.sp - 2#16] else []) (callOn cond addr s) := by
  refine .next ?_
  split
  case isTrue => exact State.callTo_writes 3#16 addr s
  case isFalse => exact .ofRegisters

theorem returnOn_writes (cond : Cond) : AnswersWriting s [] (returnOn cond s) := by
  refine .next ?_
  split
  case isTrue => exact State.returnFrom_writes s
  case isFalse => exact .ofRegisters

theorem unlistedElse_writes (op : Byte) {xs : List Word} {meaning : Result} (h : AnswersWriting s xs meaning) :
    AnswersWriting s xs (unlistedElse op meaning s) := by
  unfold unlistedElse
  split
  · exact .fault xs _
  · exact h

theorem inputPort_writes (port : Byte) : AnswersWriting s [] (inputPort port s) :=
  .next (State.ioRead_writes port s).thenRegisters
theorem outputPort_writes (port : Byte) : AnswersWriting s [] (outputPort port s) :=
  .next (State.ioWrite_writes port s.a s).thenRegisters
theorem pushPair_writes (p : StackPair) : AnswersWriting s [s.sp - 1#16, s.sp - 2#16] (pushPair p s) :=
  .next (State.push16_writes (s.stackPair p) s).thenRegisters
theorem popPair_writes (p : StackPair) : AnswersWriting s [] (popPair p s) :=
  .next ((State.pop16_writes s).thenRegisters (by simp) (by simp))

/-- XTHL reads the two bytes, then writes both, the higher one first (R214). -/
theorem exchangeTop_writes : AnswersWriting s [s.sp + 1#16, s.sp] (exchangeTop s) :=
  have read := State.readMem16_writes s.sp s
  have writeHigh := read.trans (State.writeMem_writes (s.sp + 1#16) s.h _)
  have writeLow := writeHigh.trans (State.writeMem_writes s.sp s.l _)
  .next writeLow.thenRegisters

end

/-! ### Every instruction -/

/-- Every instruction writes only where its meaning stores to. The rows are grouped by their accesses: none, a read of the
byte at HL, or those of the shared form, whose addresses are the ones that `storeAddresses` lists. -/
theorem exec_writes (i : Instr) (s : State) : AnswersWriting s (storeAddresses i s) (exec i s) := by
  cases i with
  | movBB | movBC | movBD | movBE | movBH | movBL | movBA | movCB | movCC | movCD | movCE | movCH | movCL | movCA
  | movDB | movDC | movDD | movDE | movDH | movDL | movDA | movEB | movEC | movED | movEE | movEH | movEL | movEA
  | movHB | movHC | movHD | movHE | movHH | movHL | movHA | movLB | movLC | movLD | movLE | movLH | movLL | movLA
  | movAB | movAC | movAD | movAE | movAH | movAL | movAA
  | mviB _ | mviC _ | mviD _ | mviE _ | mviH _ | mviL _ | mviA _ | lxiB _ | lxiD _ | lxiH _ | lxiSP _ | xchg
  | addB | addC | addD | addE | addH | addL | addA | adi _ | adcB | adcC | adcD | adcE | adcH | adcL | adcA | aci _
  | subB | subC | subD | subE | subH | subL | subA | sui _ | sbbB | sbbC | sbbD | sbbE | sbbH | sbbL | sbbA | sbi _
  | inrB | inrC | inrD | inrE | inrH | inrL | inrA | dcrB | dcrC | dcrD | dcrE | dcrH | dcrL | dcrA
  | inxB | inxD | inxH | inxSP | dcxB | dcxD | dcxH | dcxSP | dadB | dadD | dadH | dadSP | daa
  | anaB | anaC | anaD | anaE | anaH | anaL | anaA | ani _ | xraB | xraC | xraD | xraE | xraH | xraL | xraA | xri _
  | oraB | oraC | oraD | oraE | oraH | oraL | oraA | ori _ | cmpB | cmpC | cmpD | cmpE | cmpH | cmpL | cmpA | cpi _
  | rlc | rrc | ral | rar | cma | cmc | stc | jmp _ | pchl | sphl | ei | di | hlt | nop => exact .next .ofRegisters
  | movBM | movCM | movDM | movEM | movHM | movLM | movAM | addM | adcM | subM | sbbM | anaM | xraM | oraM | cmpM =>
    exact .next (State.readMem_writes s.hl s).thenRegisters
  | movMB | movMC | movMD | movME | movMH | movML | movMA => exact moveToMem_writes s _
  | mviM data => exact moveImmToMem_writes s data
  | lda addr => exact loadAccDirect_writes s addr
  | sta addr => exact storeAccDirect_writes s addr
  | lhld addr => exact loadHlDirect_writes s addr
  | shld addr => exact storeHlDirect_writes s addr
  | ldaxB | ldaxD => exact loadAccAt_writes s _
  | staxB | staxD => exact storeAccAt_writes s _
  | inrM => exact incMem_writes s
  | dcrM => exact decMem_writes s
  | jnz addr | jz addr | jnc addr | jc addr | jpo addr | jpe addr | jp addr | jm addr => exact jumpOn_writes s _ addr
  | call addr => exact callAlways_writes s addr
  | cnz addr | cz addr | cnc addr | cc addr | cpo addr | cpe addr | cp addr | cm addr => exact callOn_writes s _ addr
  | ret => exact returnAlways_writes s
  | rnz | rz | rnc | rc | rpo | rpe | rp | rm => exact returnOn_writes s _
  | rst0 | rst1 | rst2 | rst3 | rst4 | rst5 | rst6 | rst7 => exact restart_writes s _
  | unlisted08 | unlisted10 | unlisted18 | unlisted20 | unlisted28 | unlisted30 | unlisted38 | unlistedCB _ =>
    exact unlistedElse_writes s _ (.next .ofRegisters)
  | unlistedD9 => exact unlistedElse_writes s _ (returnAlways_writes s)
  | unlistedDD addr | unlistedED addr | unlistedFD addr => exact unlistedElse_writes s _ (callAlways_writes s addr)
  | inPort port => exact inputPort_writes s port
  | outPort port => exact outputPort_writes s port
  | pushB | pushD | pushH | pushPSW => exact pushPair_writes s _
  | popB | popD | popH | popPSW => exact popPair_writes s _
  | xthl => exact exchangeTop_writes s

/-- Settles O40: `exec_writes`, of an instruction that completes. -/
theorem storesStayInTheirFootprint : Obligations.StoresStayInTheirFootprint := by
  intro i s t plain h
  obtain ⟨-, others⟩ := (h ▸ exec_writes i s).writesOnly plain
  exact others

end Sys2Proof.Machine
end

section
/-! O53 to O55: one STA and one LDA, by what `MEMMAP` says of the address (R57, R67), and the writes of an external bus
master that land before the access (R68). -/

namespace Sys2Proof.Machine

theorem exec_sta (x : Word) (s : State) : exec (.sta x) s = storeAccDirect x s := rfl
theorem exec_lda (x : Word) (s : State) : exec (.lda x) s = loadAccDirect x s := rfl

/-- What LDA from an address of memory answers: the slot of the bus master comes first, then the byte is read (R116). -/
theorem exec_lda_memory {x : Word} {s : State} (h : s.isMemory x) :
    ∃ t, exec (.lda x) s = .next t ∧ t.a = s.busSlot.peek x ∧ t.dma = s.dma.tail ∧ t.outputs = s.busSlot.outputs := by
  have read : s.readMem x = (s.busSlot.peek x, s.busSlot) := State.readMem_memory h
  refine ⟨State.advance 3#16 { s.busSlot with a := s.busSlot.peek x }, ?answer, rfl, by simp, rfl⟩
  rw [exec_lda, loadAccDirect, read]

/-- With no bus master scheduled LDA reads the cell as it is. -/
theorem exec_lda_plain {x : Word} {s : State} (plain : s.dma = []) (h : s.isMemory x) :
    ∃ t, exec (.lda x) s = .next t ∧ t.a = s.peek x := by
  obtain ⟨t, answer, a, -, -⟩ := exec_lda_memory h
  exact ⟨t, answer, by rw [a, State.busSlot_plain plain]⟩

/-- Settles O53: LDA reads the cell, and the store has changed the one cell (R61). -/
theorem loadSeesTheLastStore : Obligations.LoadSeesTheLastStore := by
  intro x y s plain ram memory
  let t := (s.writeMem x s.a).advance 3#16
  have plainAfter : t.dma = [] := by simp [t, plain]
  have memoryAfter : t.isMemory y := by simpa [t, State.isMemory] using memory
  obtain ⟨u, answer, a⟩ := exec_lda_plain plainAfter memoryAfter
  refine ⟨t, u, exec_sta x s, answer, ?_⟩
  rw [a, State.advance_peek, State.writeMem_peek plain]
  simp [ram]

theorem storesNothing_of_mem {s t : State} (h : t.mem = s.mem) : storesNothing s t := ⟨h, sameMemoryBut_of_mem [] h⟩

/-- A write outside ram changes no memory (R57, D22). -/
theorem State.store_mem_other {x : Word} {v : Byte} {s : State} (h : s.kindAt x ≠ .ram) : (s.store x v).mem = s.mem := by
  rcases State.store_spec x v s with ⟨ram, _⟩ | ⟨_, ignored⟩ | ⟨_, event⟩
  · exact absurd ram h
  · rw [ignored]
  · rw [event]

/-- STA outside ram, with no bus master scheduled: no memory changes, and only a device makes it an event. -/
theorem exec_sta_other {x : Word} {s : State} (plain : s.dma = []) (h : s.kindAt x ≠ .ram) :
    ∃ t, exec (.sta x) s = .next t ∧ storesNothing s t ∧
      t.outputs = s.outputs ++ (if s.kindAt x = .device then [.device x s.a] else []) := by
  refine ⟨(s.writeMem x s.a).advance 3#16, exec_sta x s, storesNothing_of_mem ?mem, ?outputs⟩
  case mem => rw [State.advance_mem, State.writeMem, State.busSlot_plain plain, State.store_mem_other h]
  case outputs => rw [State.advance_outputs, State.writeMem_outputs, State.busSlot_plain plain]

/-- Settles O54: `exec_sta_other`, for each kind that is not ram. -/
theorem storeOutsideRamChangesNoMemory : Obligations.StoreOutsideRamChangesNoMemory := by
  intro x s plain
  refine ⟨fun ignored => ?ignored, fun device => ?device⟩
  case ignored =>
    obtain ⟨t, answer, nothing, outputs⟩ :=
      exec_sta_other plain (x := x) (by rcases ignored with k | k <;> simp [k])
    exact ⟨t, answer, nothing, by rcases ignored with k | k <;> simpa [k] using outputs⟩
  case device =>
    obtain ⟨t, answer, nothing, outputs⟩ := exec_sta_other plain (x := x) (by simp [device])
    exact ⟨t, answer, nothing, by simpa [device] using outputs⟩

/-- After the writes of an external bus master a cell of ram holds the last byte written to it, if any was (R68). -/
theorem State.dmaWrites_peek_ram (w : List (Word × Byte)) {s : State} {x : Word} (h : s.kindAt x = .ram) :
    (s.dmaWrites w).peek x = ((w.reverse.find? fun p => p.1 == x).map Prod.snd).getD (s.peek x) := by
  induction w generalizing s with
  | nil => rfl
  | cons p rest ih =>
    rw [State.dmaWrites, ih (by simpa using h), State.store_peek, List.reverse_cons, List.find?_append]
    cases later : rest.reverse.find? fun p => p.1 == x with
    | some q => simp
    | none =>
      by_cases hit : p.1 = x
      · simp [hit, h]
      · simp [hit, Ne.symm hit]

/-- A slot whose writes are known: they are made, and the schedule goes on after it. -/
theorem State.busSlot_of_dma {s : State} {writes : List (Word × Byte)} {later : List (List (Word × Byte))}
    (h : s.dma = writes :: later) : s.busSlot = State.dmaWrites writes { s with dma := later } := by
  rw [State.busSlot_spec, h, List.headD_cons, List.tail_cons]

/-- Settles O55: LDA reads after the slot, and the laws of the slot's writes say what it then finds. -/
theorem busMasterWritesLandBeforeTheAccess : Obligations.BusMasterWritesLandBeforeTheAccess := by
  intro x s writes later scheduled memory
  obtain ⟨t, answer, a, dma, outputs⟩ := exec_lda_memory memory
  rw [State.busSlot_of_dma scheduled] at a outputs
  have kind : State.kindAt { s with dma := later } x = s.kindAt x := rfl
  refine ⟨t, answer, by rw [dma, scheduled, List.tail_cons], fun rom => ?rom, fun ram => ?ram, ?outputs⟩
  case rom => exact a.trans (State.dmaWrites_peek_other writes (by simp [kind, rom]))
  case ram =>
    rw [a, State.dmaWrites_peek_ram writes (kind.trans ram)]
    cases writes.reverse.find? fun p => p.1 == x with
    | none => rfl
    | some last => rfl
  case outputs => exact outputs.trans (State.dmaWrites_outputs writes _)

end Sys2Proof.Machine
end

section
/-! O60: the table of status words (R58). -/

namespace Sys2Proof.Machine

/-- Bit D0 to D7 of a status word is the entry of the table under that name (R58). -/
theorem statusWord_bits (k : BusCycle) :
    (List.range 8).map (statusWord k).getLsbD =
      [(statusBits k).inta, (statusBits k).wo, (statusBits k).stack, (statusBits k).hlta, (statusBits k).out,
        (statusBits k).m1, (statusBits k).inp, (statusBits k).memr] := by
  cases k with
  | instructionFetch | memoryRead | memoryWrite | stackRead | stackWrite | inputRead | outputWrite | intAck | haltAck
  | intAckWhileHalt => decide

/-- Settles O60: the ten words by evaluation, their bits by `statusWord_bits`. -/
theorem statusWordsOfTheTenCycles : Obligations.StatusWordsOfTheTenCycles := by
  refine ⟨by decide, fun k => ?_⟩
  simpa [List.range_succ, eq_comm] using statusWord_bits k

end Sys2Proof.Machine
end

section
/-! The decoder said once: what `decode` accepts, by the length that the first byte tells (R80, R89), and what the encoder
writes for each row of the grid (R82, R88). -/

namespace Sys2Proof.Machine

theorem opcodeLength_cases (op : Byte) : opcodeLength op = 1 ∨ opcodeLength op = 2 ∨ opcodeLength op = 3 := by
  unfold opcodeLength
  split_ifs <;> simp

/-- `Decodes bytes i rest`: the decoder reads `i` from `bytes` and leaves `rest`; one constructor per length of R89. -/
inductive Decodes : List Byte → Instr → List Byte → Prop where
  | alone {op : Byte} {rest : List Byte} (length : opcodeLength op = 1) :
      Decodes (op :: rest) (decodeBytes op 0#8 0#8) rest
  | withByte {op b2 : Byte} {rest : List Byte} (length : opcodeLength op = 2) :
      Decodes (op :: b2 :: rest) (decodeBytes op b2 0#8) rest
  | withWord {op b2 b3 : Byte} {rest : List Byte} (length : opcodeLength op = 3) :
      Decodes (op :: b2 :: b3 :: rest) (decodeBytes op b2 b3) rest

theorem Decodes.decode_eq {bytes rest : List Byte} {i : Instr} (h : Decodes bytes i rest) :
    decode bytes = .ok (i, rest) := by
  cases h with
  | alone length | withByte length | withWord length => simp [decode, length]

theorem decodes_of_decode {bytes rest : List Byte} {i : Instr} (h : decode bytes = .ok (i, rest)) :
    Decodes bytes i rest := by
  cases bytes with
  | nil => cases h
  | cons op more =>
    rcases opcodeLength_cases op with length | length | length
    · obtain ⟨rfl, rfl⟩ : decodeBytes op 0#8 0#8 = i ∧ more = rest := by simpa [decode, length] using h
      exact .alone length
    · cases more with
      | nil => simp [decode, length] at h
      | cons b2 tail =>
        obtain ⟨rfl, rfl⟩ : decodeBytes op b2 0#8 = i ∧ tail = rest := by simpa [decode, length] using h
        exact .withByte length
    · rcases more with _ | ⟨b2, _ | ⟨b3, tail⟩⟩
      · simp [decode, length] at h
      · simp [decode, length] at h
      · obtain ⟨rfl, rfl⟩ : decodeBytes op b2 b3 = i ∧ tail = rest := by simpa [decode, length] using h
        exact .withWord length

/-- Three bytes are always enough, and the decoder leaves what stands after the length of R89. -/
theorem exists_decodes (op b2 b3 : Byte) (tail : List Byte) :
    ∃ i, Decodes (op :: b2 :: b3 :: tail) i ((op :: b2 :: b3 :: tail).drop (opcodeLength op)) := by
  rcases opcodeLength_cases op with length | length | length <;> rw [length]
  · exact ⟨_, .alone length⟩
  · exact ⟨_, .withByte length⟩
  · exact ⟨_, .withWord length⟩

/-- The opcode byte of a quadrant and two octal digits (R82). -/
def rowByte (quadrant : BitVec 2) (mid low : Octal) : Byte :=
  quadrant ++ BitVec.ofNat 3 mid.toNat ++ BitVec.ofNat 3 low.toNat

theorem rowByte_digits : ∀ op : Byte, rowByte (op.extractLsb' 6 2) (midDigit op) (lowDigit op) = op := by decide

/-- `Spells op b2 b3 i`: the encoder writes `i` as the first byte `op` and those of `b2`, `b3` that its length calls for
(R86, R87). -/
inductive Spells (op b2 b3 : Byte) (i : Instr) : Prop where
  | alone (length : opcodeLength op = 1) (encoding : encode i = [op])
  | withByte (length : opcodeLength op = 2) (encoding : encode i = [op, b2])
  | withWord (length : opcodeLength op = 3)
      (encoding : encode i = [op, loByte (joinBytes b3 b2), hiByte (joinBytes b3 b2)])

/-- Quadrant 00: the low digit tells the length, but for the columns of LXI and DAD and of the direct addresses. -/
theorem spells_quadrant0 (mid low : Octal) (b2 b3 : Byte) :
    Spells (rowByte 0#2 mid low) b2 b3 (decodeBytes (rowByte 0#2 mid low) b2 b3) := by
  cases low with
  | o0 | o3 | o4 | o5 | o7 => cases mid <;> exact .alone rfl rfl
  | o6 => cases mid <;> exact .withByte rfl rfl
  | o1 =>
    cases mid with
    | o0 | o2 | o4 | o6 => exact .withWord rfl rfl
    | o1 | o3 | o5 | o7 => exact .alone rfl rfl
  | o2 =>
    cases mid with
    | o0 | o1 | o2 | o3 => exact .alone rfl rfl
    | o4 | o5 | o6 | o7 => exact .withWord rfl rfl

/-- Quadrant 01, the moves and HLT. -/
theorem spells_quadrant1 (mid low : Octal) (b2 b3 : Byte) :
    Spells (rowByte 1#2 mid low) b2 b3 (decodeBytes (rowByte 1#2 mid low) b2 b3) := by
  cases mid <;> cases low <;> exact .alone rfl rfl

/-- Quadrant 10, the accumulator and a register or M. -/
theorem spells_quadrant2 (mid low : Octal) (b2 b3 : Byte) :
    Spells (rowByte 2#2 mid low) b2 b3 (decodeBytes (rowByte 2#2 mid low) b2 b3) := by
  cases mid <;> cases low <;> exact .alone rfl rfl

/-- Quadrant 11: addresses in the columns of Jcc and Ccc, for JMP and CALL and four unlisted bytes; ports. -/
theorem spells_quadrant3 (mid low : Octal) (b2 b3 : Byte) :
    Spells (rowByte 3#2 mid low) b2 b3 (decodeBytes (rowByte 3#2 mid low) b2 b3) := by
  cases low with
  | o0 | o1 | o7 => cases mid <;> exact .alone rfl rfl
  | o2 | o4 => cases mid <;> exact .withWord rfl rfl
  | o6 => cases mid <;> exact .withByte rfl rfl
  | o3 =>
    cases mid with
    | o0 | o1 => exact .withWord rfl rfl
    | o2 | o3 => exact .withByte rfl rfl
    | o4 | o5 | o6 | o7 => exact .alone rfl rfl
  | o5 =>
    cases mid with
    | o1 | o3 | o5 | o7 => exact .withWord rfl rfl
    | o0 | o2 | o4 | o6 => exact .alone rfl rfl

theorem spells_decodeBytes (op b2 b3 : Byte) : Spells op b2 b3 (decodeBytes op b2 b3) := by
  rw [← rowByte_digits op]
  generalize op.extractLsb' 6 2 = quadrant
  match quadrant with
  | 0#2 => exact spells_quadrant0 ..
  | 1#2 => exact spells_quadrant1 ..
  | 2#2 => exact spells_quadrant2 ..
  | 3#2 => exact spells_quadrant3 ..

/-- The encoder inverts the grid, for every first byte and whatever bytes follow. -/
theorem encode_decodeBytes (op b2 b3 : Byte) : encode (decodeBytes op b2 b3) = [op, b2, b3].take (opcodeLength op) := by
  cases spells_decodeBytes op b2 b3 with
  | alone length encoding | withByte length encoding | withWord length encoding => simp [encoding, length]

end Sys2Proof.Machine
end

section
/-! O1 to O5: the decoder and the encoder are inverse to each other, and what the first byte tells. -/

namespace Sys2Proof.Machine

/-- A row whose operand is a word: its bytes join to the word again (R86). -/
theorem Decodes.ofWord {op : Byte} {v : Word} {rest : List Byte} {row : Word → Instr} (length : opcodeLength op = 3)
    (h : decodeBytes op (loByte v) (hiByte v) = row (joinBytes (hiByte v) (loByte v))) :
    Decodes (op :: loByte v :: hiByte v :: rest) (row v) rest := by
  rw [joinBytes_halves] at h
  exact h ▸ .withWord length

/-- Every row reads back as its encoding, by the operand it has: a word, a byte, and none for the rows not listed. -/
theorem decodes_encode (i : Instr) (rest : List Byte) : Decodes (encode i ++ rest) i rest := by
  cases i with
  | lxiB v | lxiD v | lxiH v | lxiSP v | lda v | sta v | lhld v | shld v
  | jmp v | jnz v | jz v | jnc v | jc v | jpo v | jpe v | jp v | jm v
  | call v | cnz v | cz v | cnc v | cc v | cpo v | cpe v | cp v | cm v
  | unlistedCB v | unlistedDD v | unlistedED v | unlistedFD v => exact .ofWord rfl rfl
  | mviB b | mviC b | mviD b | mviE b | mviH b | mviL b | mviA b | mviM b
  | adi b | aci b | sui b | sbi b | ani b | xri b | ori b | cpi b | inPort b | outPort b => exact .withByte rfl
  | _ => exact .alone rfl

/-- Settles O1: `decodes_encode`. -/
theorem decodeReadsBackEveryEncoding : Obligations.DecodeReadsBackEveryEncoding :=
  fun i rest => (decodes_encode i rest).decode_eq

theorem Decodes.encode_append {bytes rest : List Byte} {i : Instr} (h : Decodes bytes i rest) :
    encode i ++ rest = bytes := by
  cases h with
  | alone length | withByte length | withWord length => simp [encode_decodeBytes, length]

/-- Settles O2: the encoder inverts the grid. -/
theorem encodeWritesBackEveryDecoding : Obligations.EncodeWritesBackEveryDecoding :=
  fun _ _ _ h => (decodes_of_decode h).encode_append

theorem Decodes.opcodeOf_eq {op : Byte} {more rest : List Byte} {i : Instr} (h : Decodes (op :: more) i rest) :
    opcodeOf i = op := by
  cases h with
  | alone length | withByte length | withWord length => simp [opcodeOf, encode_decodeBytes, length]

/-- A row is refused exactly if its first byte is one of the 12 (R92). -/
theorem wellFormed_eq_opcode (i : Instr) : i.wellFormed = !unlistedBytes.contains (opcodeOf i) := by
  cases i with
  | unlisted08 | unlisted10 | unlisted18 | unlisted20 | unlisted28 | unlisted30 | unlisted38 | unlistedCB | unlistedD9
  | unlistedDD | unlistedED | unlistedFD => rfl
  | _ => rfl

theorem Decodes.wellFormed_iff {op : Byte} {more rest : List Byte} {i : Instr} (h : Decodes (op :: more) i rest) :
    i.wellFormed = true ↔ op ∉ unlistedBytes := by
  simp [wellFormed_eq_opcode, h.opcodeOf_eq]

/-- Settles O4: an instruction is refused by its first byte. -/
theorem exactlyTwelveBytesSpellNoInstruction : Obligations.ExactlyTwelveBytesSpellNoInstruction := by
  intro op b2 b3 tail rest i h
  rw [← Bool.not_eq_true, (decodes_of_decode h).wellFormed_iff, not_not]

/-- The decoder's length is R89's for the bytes that R89 speaks of. -/
theorem opcodeLength_listed {op : Byte} (listed : op ∉ unlistedBytes) :
    opcodeLength op =
      if op &&& 0xCF#8 = 0x01#8 ∨ op ∈ [0x22#8, 0x2A#8, 0x32#8, 0x3A#8] ∨ op &&& 0xC7#8 = 0xC2#8 ∨ op = 0xC3#8 ∨
          op &&& 0xC7#8 = 0xC4#8 ∨ op = 0xCD#8 then 3
      else if op &&& 0xC7#8 = 0x06#8 ∨ op &&& 0xC7#8 = 0xC6#8 ∨ op ∈ [0xD3#8, 0xDB#8] then 2
      else 1 := by
  have notWord : ¬(op = 0xCB#8 ∨ op = 0xDD#8 ∨ op = 0xED#8 ∨ op = 0xFD#8) := by
    rintro (rfl | rfl | rfl | rfl) <;> exact listed (by decide)
  unfold opcodeLength
  rw [if_neg notWord]
  simp only [List.mem_cons, List.not_mem_nil, or_false, ite_or]

/-- Settles O3: three bytes are enough, and the length is R89's. -/
theorem firstByteTellsTheLength : Obligations.FirstByteTellsTheLength := by
  intro op b2 b3 tail listed
  obtain ⟨i, reads⟩ := exists_decodes op b2 b3 tail
  rw [opcodeLength_listed listed] at reads
  exact ⟨i, reads.wellFormed_iff.mpr listed, reads.decode_eq⟩

/-- Settles O5: each word by evaluation. -/
theorem sampleWordsDecode : Obligations.SampleWordsDecode :=
  ⟨rfl, rfl, rfl, rfl, rfl, rfl, rfl, rfl, rfl, rfl, rfl, rfl, rfl, rfl, rfl, rfl⟩

end Sys2Proof.Machine
end

section
/-! O35, O36: the two settings of `UNLISTED_OPCODES` (R92). -/

namespace Sys2Proof.Machine

theorem unlistedElse_fault {op : Byte} {meaning : Result} {s : State} (h : s.launch.unlisted = .fault) :
    unlistedElse op meaning s = .fault (.illegalOpcode op s.pc) := by rw [unlistedElse, h]

theorem unlistedElse_act {op : Byte} {meaning : Result} {s : State} (h : s.launch.unlisted = .act) :
    unlistedElse op meaning s = meaning := by rw [unlistedElse, h]

/-- Settles O35: each of the 12 rows is a choice of R92. -/
theorem unlistedBytesRaiseIllegalOpcode : Obligations.UnlistedBytesRaiseIllegalOpcode := by
  intro addr s fault
  and_intros <;> exact unlistedElse_fault fault

/-- Settles O36: each of the 12 rows is a choice of R92, whose other side is the instruction it names. -/
theorem unlistedBytesActAsNamed : Obligations.UnlistedBytesActAsNamed := by
  intro addr s act
  refine ⟨⟨s.advance 1#16, rfl, ?_⟩, ⟨s.jumpTo addr, rfl, ?_⟩, ⟨s.returnFrom, rfl, ?_⟩,
    ⟨s.callTo 3#16 addr, rfl, ?_⟩⟩
  all_goals and_intros <;> exact unlistedElse_act act

end Sys2Proof.Machine
end

section
/-! O43: the fetch reads what the decoder reads (R80), and a step executes it. -/

namespace Sys2Proof.Machine

theorem State.readMem_plain_memory {x : Word} {s : State} (plain : s.dma = []) (h : s.isMemory x) :
    s.readMem x = (s.peek x, s) := by
  rw [State.readMem_memory h, State.busSlot_plain plain]

/-- Where the bytes of the instruction at PC are memory, the fetch answers it and leaves the state as it was. -/
theorem State.fetch_of_decodes {s : State} {i : Instr} {rest : List Byte} (plain : s.dma = [])
    (reads : Decodes [s.peek s.pc, s.peek (s.pc + 1#16), s.peek (s.pc + 2#16)] i rest) (first : s.isMemory s.pc)
    (second : 2 ≤ (encode i).length → s.isMemory (s.pc + 1#16))
    (third : 3 ≤ (encode i).length → s.isMemory (s.pc + 2#16)) : s.fetch = (i, s) := by
  have read1 := State.readMem_plain_memory plain first
  unfold State.fetch
  cases reads with
  | alone length => simp [read1, length]
  | withByte length =>
    have read2 := State.readMem_plain_memory plain (second (by simp [encode_decodeBytes, length]))
    simp [read1, read2, length]
  | withWord length =>
    have read2 := State.readMem_plain_memory plain (second (by simp [encode_decodeBytes, length]))
    have read3 := State.readMem_plain_memory plain (third (by simp [encode_decodeBytes, length]))
    simp [read1, read2, read3, length]

/-- A step of a running machine where nothing is due. -/
theorem step_of_running {s : State} (running : s.halted = false) (quiet : s.quiet) :
    step s = State.runInstruction { s with env := s.env.tail } := by
  have action : s.popBoundary.2.boundaryAction s.popBoundary.1 = .fetch := by
    rw [State.boundaryAction_of_quiet quiet, State.unprompted, if_neg (by simp [running])]
  unfold step
  rw [action, State.popBoundary_state]

/-- Settles O43: nothing is due, so the step fetches what the decoder reads at PC. -/
theorem stepRunsTheDecodedInstruction : Obligations.StepRunsTheDecodedInstruction := by
  intro s i rest running quiet plain reads first second third
  have fetched : State.fetch { s with env := s.env.tail } = (i, { s with env := s.env.tail }) :=
    State.fetch_of_decodes plain (decodes_of_decode reads) first second third
  rw [step_of_running running quiet, State.runInstruction, fetched]

end Sys2Proof.Machine
end

section
/-! The two ways an instruction completes that stays inside the registers or makes one byte access (41_data_transfer.md):
what `registerForm`, `loadsByte` and `storesByte` say, shown once of the updates that the shared forms are made of. -/

namespace Sys2Proof.Machine

/-- An update that touches nothing but registers, once the instruction has advanced. That it touches nothing else follows
from the `simp` lemmas of the updates. -/
theorem registerForm_advance {len : Word} {rs : List Reg8} {s t : State} (regs : sameRegsBut rs s t)
    (platform : samePlatform s t := by simp [samePlatform, sameEnvironment]) (mem : t.mem = s.mem := by simp)
    (pc : t.pc = s.pc := by simp) (inte : t.inte = s.inte := by simp) (halted : t.halted = s.halted := by simp) :
    registerForm len rs s (t.advance len) :=
  ⟨fun r outside => (State.advance_reg r len t).trans (regs r outside), platform, storesNothing_of_mem mem,
    congrArg (· + len) pc, rfl, inte, halted⟩

theorem State.setReg_sameRegsBut (r : Reg8) (v : Byte) (s : State) : sameRegsBut [r] s (s.setReg r v) := by
  intro q outside
  rw [State.setReg_reg, if_neg (List.ne_of_not_mem_cons outside)]

theorem State.setPair_sameRegsBut (p : RegPair) (v : Word) (s : State) : sameRegsBut (pairRegs p) s (s.setPair p v) := by
  intro q outside
  refine State.setPair_reg_other v s ?_
  cases p with
  | bc | de | hl => simpa [pairRegs] using outside
  | sp => trivial

/-- One register is written and the instruction advances. -/
theorem setReg_advance (len : Word) (r : Reg8) (v : Byte) (s : State) :
    ((s.setReg r v).advance len).reg r = v ∧ registerForm len [r] s ((s.setReg r v).advance len) ∧
      ((s.setReg r v).advance len).sp = s.sp ∧ ((s.setReg r v).advance len).flags = s.flags :=
  ⟨by simp, registerForm_advance (State.setReg_sameRegsBut r v s), by simp, by simp⟩

/-- One byte is read, then put in a register, and the instruction advances. -/
theorem loadsByte_advance (len : Word) (r : Reg8) (x : Word) (s : State) :
    loadsByte len r x s (((s.readMem x).2.setReg r (s.readMem x).1).advance len) := by
  have value : (((s.readMem x).2.setReg r (s.readMem x).1).advance len).reg r = (s.readMem x).1 := by simp
  refine ⟨value, fun q outside => ?others, by simp, by simp, by simp [samePlatform, sameEnvironment], by simp,
    fun plain => ⟨?memory, fun memory => ?byte⟩, by simp [advances]⟩
  case others =>
    rw [State.advance_reg, State.setReg_sameRegsBut r _ _ q outside, State.readMem_reg]
  case memory =>
    exact sameMemoryBut_of_mem [] (by simp [State.readMem_plain plain])
  case byte => rw [value, State.readMem_plain_memory plain memory]

/-- The cell at the address of a store, with no external bus master scheduled (R57). -/
theorem State.writeMem_cell {x : Word} {v : Byte} {s : State} (plain : s.dma = []) :
    cellAfterStore x v s (s.writeMem x v) := by
  simp [cellAfterStore, State.writeMem_peek plain]

/-- One byte is written, and the instruction advances. -/
theorem storesByte_advance (len x : Word) (v : Byte) (s : State) :
    storesByte len x v s ((s.writeMem x v).advance len) := by
  refine ⟨fun q _ => by simp, by simp, by simp, by simp [samePlatform, sameEnvironment], rfl,
    fun plain => ⟨State.writeMem_cell plain, ?others⟩, by simp [advances]⟩
  obtain ⟨-, others⟩ := State.writeMem_writes x v s plain
  exact others

/-- Every cell after a word is stored with no external bus master scheduled: low byte at the lower address (R52). -/
theorem State.writeMem16_peek {x v : Word} {s : State} (plain : s.dma = []) (y : Word) :
    (s.writeMem16 x v).peek y = if y = x + 1#16 ∧ s.kindAt (x + 1#16) = .ram then hiByte v
      else if y = x ∧ s.kindAt x = .ram then loByte v else s.peek y := by
  rw [State.writeMem16, State.writeMem_peek (by simp [plain]), State.writeMem_peek plain, State.writeMem_kindAt]

/-- Both cells of a stored word hold its bytes: they are different cells, also where the address wraps. -/
theorem State.writeMem16_cells {x v : Word} {s : State} (plain : s.dma = []) :
    cellAfterStore x (loByte v) s (s.writeMem16 x v) ∧ cellAfterStore (x + 1#16) (hiByte v) s (s.writeMem16 x v) := by
  have apart : x ≠ x + 1#16 := by bv_omega
  simp [cellAfterStore, State.writeMem16_peek plain, apart, apart.symm]

/-- The second byte read of a word is the one at the next address, also where the first address is no memory (R52). -/
theorem State.readMem16_second {x : Word} {s : State} (plain : s.dma = []) (memory : s.isMemory (x + 1#16)) :
    ((s.readMem x).2.readMem (x + 1#16)).1 = s.peek (x + 1#16) := by
  have plainAfter : (s.readMem x).2.dma = [] := by simp [plain]
  rw [State.readMem_plain_memory plainAfter (by simpa [State.isMemory] using memory), State.readMem_peek plain]

end Sys2Proof.Machine
end

section
/-! O6 to O11: the data transfer group (R110 to R122) and SPHL (R215). -/

namespace Sys2Proof.Machine

theorem encode_mov (r1 r2 : Reg8) : encode (.mov r1 r2) = [0x40#8 + 8#8 * regField r1 + regField r2] := by
  cases r1 <;> cases r2 <;> rfl

theorem encode_mvi (r : Reg8) (data : Byte) : encode (.mvi r data) = [0x06#8 + 8#8 * regField r, data] := by
  cases r <;> rfl

/-- Settles O6: both forms write one register. -/
theorem movAndMviSetOneRegister : Obligations.MovAndMviSetOneRegister := fun r1 r2 data s =>
  ⟨⟨encode_mov r1 r2, _, exec_mov r1 r2 s, setReg_advance 1#16 r1 (s.reg r2) s⟩,
    ⟨encode_mvi r1 data, _, exec_mvi r1 data s, setReg_advance 2#16 r1 data s⟩⟩

/-- Settles O7: the forms differ in the register, the address and the length. -/
theorem byteLoadsReadOneCell : Obligations.ByteLoadsReadOneCell := fun r addr s =>
  ⟨⟨_, exec_movFromM r s, loadsByte_advance 1#16 r s.hl s⟩, ⟨_, exec_lda addr s, loadsByte_advance 3#16 .a addr s⟩,
    ⟨_, rfl, loadsByte_advance 1#16 .a (s.pair .bc) s⟩, ⟨_, rfl, loadsByte_advance 1#16 .a (s.pair .de) s⟩⟩

/-- Settles O8: the forms differ in the byte, the address and the length. -/
theorem byteStoresWriteOneCell : Obligations.ByteStoresWriteOneCell := fun r data addr s =>
  ⟨⟨_, exec_movToM r s, storesByte_advance 1#16 s.hl (s.reg r) s⟩, ⟨_, rfl, storesByte_advance 2#16 s.hl data s⟩,
    ⟨_, exec_sta addr s, storesByte_advance 3#16 addr s.a s⟩, ⟨_, rfl, storesByte_advance 1#16 (s.pair .bc) s.a s⟩,
    ⟨_, rfl, storesByte_advance 1#16 (s.pair .de) s.a s⟩⟩

/-- Settles O9: LXI writes one pair, SPHL writes SP. -/
theorem lxiAndSphlLoadAPair : Obligations.LxiAndSphlLoadAPair := by
  intro p v s
  refine ⟨⟨_, exec_lxi p v s, ?halves, registerForm_advance (State.setPair_sameRegsBut p v s), ?sp, by simp⟩,
    ⟨_, rfl, rfl, registerForm_advance (State.setPair_sameRegsBut .sp s.hl s), rfl⟩⟩
  case halves =>
    cases p with
    | bc | de | hl => exact ⟨rfl, rfl⟩
    | sp => rfl
  case sp =>
    intro other
    rw [State.advance_sp, State.setPair_sp_eq, if_neg other]

/-- Settles O10: LHLD is a word read and then a write of HL, SHLD a word write. -/
theorem lhldAndShldMoveAWord : Obligations.LhldAndShldMoveAWord := by
  intro addr s
  refine ⟨⟨((s.readMem16 addr).2.setPair .hl (s.readMem16 addr).1).advance 3#16, rfl, ?lhld⟩,
    ⟨(s.writeMem16 addr s.hl).advance 3#16, rfl, ?shld⟩⟩
  case lhld =>
    have low : loByte (s.readMem16 addr).1 = (s.readMem addr).1 := loByte_joinBytes _ _
    have high : hiByte (s.readMem16 addr).1 = ((s.readMem addr).2.readMem (addr + 1#16)).1 := hiByte_joinBytes _ _
    refine ⟨low, high, fun q outside => ?others, by simp, by simp, by simp [samePlatform, sameEnvironment], by simp,
      fun plain => ⟨?memory, fun memory => ?l, fun memory => ?h⟩, by simp [advances]⟩
    case others =>
      rw [State.advance_reg, State.setPair_sameRegsBut .hl _ _ q outside, State.readMem16_reg]
    case memory => exact sameMemoryBut_of_mem [] (State.readMem16_plain plain)
    case l => exact low.trans (by rw [State.readMem_plain_memory plain memory])
    case h => exact high.trans (State.readMem16_second plain memory)
  case shld =>
    refine ⟨fun q _ => by simp, by simp, by simp, by simp [samePlatform, sameEnvironment], rfl, fun plain => ?memory,
      by simp [advances]⟩
    obtain ⟨low, high⟩ := State.writeMem16_cells (x := addr) (v := s.hl) plain
    obtain ⟨-, others⟩ := State.writeMem16_writes addr s.hl s plain
    rw [State.hl, loByte_joinBytes] at low
    rw [State.hl, hiByte_joinBytes] at high
    exact ⟨low, high, others⟩

/-- Settles O11: each of the four registers is written, and no other. -/
theorem xchgSwapsDeAndHl : Obligations.XchgSwapsDeAndHl := by
  refine ⟨rfl, fun s => ⟨_, rfl, rfl, rfl, rfl, rfl, registerForm_advance ?others, rfl, rfl⟩⟩
  intro q outside
  cases q with
  | h | l | d | e => simp at outside
  | b | c | a => rfl

end Sys2Proof.Machine
end

section
/-! The flag computations of the arithmetic group in numbers: one lemma for the result and one for each flag that a rule of
42_arithmetic.md gives (R130, R131, R144, R146, R150, R151); Z, S and P are `zspWith`'s for all of them (R26). Last, what the
decimal adjust makes of a sum of packed BCD (R152). -/

namespace Sys2Proof.Machine

theorem lowNibble_eq (v : Byte) : lowNibble v = v.toNat % 16 := by simp [lowNibble]

theorem highNibble_eq (v : Byte) : highNibble v = v.toNat / 16 := by
  have := v.isLt
  simp [highNibble, Nat.shiftRight_eq_div_pow]
  omega

/-- The exclusive or along a list is the parity of the number of its members that hold. -/
theorem foldr_xor_eq_bodd {α : Type} (p : α → Bool) (l : List α) :
    l.foldr (fun k odd => p k ^^ odd) false = (l.countP p).bodd := by
  induction l with
  | nil => simp
  | cons k rest ih => cases h : p k <;> simp [h, ih]

theorem parityEven_iff (r : Byte) :
    parityEven r = true ↔ (List.range 8).countP (fun k => r.getLsbD k) % 2 = 0 := by
  have bits : parityEven r = !(List.range 8).foldr (fun k odd => r.getLsbD k ^^ odd) false := by
    simp [parityEven, List.range_succ]
  rw [bits, foldr_xor_eq_bodd, Nat.mod_two_of_bodd]
  simp

/-- `ZSP` is R26, whatever AC and CY come with it. -/
theorem zspWith_zspOf (r : Byte) (ac cy : Bool) : zspOf r (zspWith r ac cy) :=
  ⟨beq_iff_eq, by simp [zspWith, BitVec.msb_eq_decide], parityEven_iff r⟩

/-! ### The adder (R130, R131) -/

/-- The 9-bit sum that `add8` and `sub8` form. -/
theorem toNat_sum9 (x y : Byte) (cin : Bool) :
    (x.setWidth 9 + y.setWidth 9 + (BitVec.ofBool cin).setWidth 9 : BitVec 9).toNat =
      x.toNat + y.toNat + cin.toNat := by
  have := x.isLt
  have := y.isLt
  have := cin.toNat_lt
  simp
  omega

theorem add8_toNat (x y : Byte) (cin : Bool) :
    (add8 x y cin).1.toNat = (x.toNat + y.toNat + cin.toNat) % 256 := by
  rw [add8, BitVec.toNat_setWidth, toNat_sum9]

theorem add8_cy (x y : Byte) (cin : Bool) :
    (add8 x y cin).2.cy = true ↔ 256 ≤ x.toNat + y.toNat + cin.toNat := by
  simp only [add8, zspWith, BitVec.msb_eq_decide, toNat_sum9, decide_eq_true_eq]

theorem add8_ac (x y : Byte) (cin : Bool) :
    (add8 x y cin).2.ac = true ↔ 16 ≤ x.toNat % 16 + y.toNat % 16 + cin.toNat := by
  simp only [add8, zspWith, lowNibble_eq, decide_eq_true_eq]
  omega

theorem add8_zsp (x y : Byte) (cin : Bool) : zspOf (add8 x y cin).1 (add8 x y cin).2 := zspWith_zspOf _ _ _

/-- A subtraction adds the complement, with the borrow complemented (R131): the result and AC are the sum's, CY is the
complement of its carry. -/
theorem sub8_fst (x y : Byte) (bin : Bool) : (sub8 x y bin).1 = (add8 x (~~~y) !bin).1 := rfl
theorem sub8_cy_eq (x y : Byte) (bin : Bool) : (sub8 x y bin).2.cy = !(add8 x (~~~y) !bin).2.cy := rfl
theorem sub8_ac_eq (x y : Byte) (bin : Bool) : (sub8 x y bin).2.ac = (add8 x (~~~y) !bin).2.ac := rfl

theorem toNat_not_add (y : Byte) : (~~~y).toNat + y.toNat = 255 := by
  have := y.isLt
  rw [BitVec.toNat_not]
  omega

theorem toNat_not_add_of_bool (b : Bool) : (!b).toNat + b.toNat = 1 := by cases b <;> rfl

theorem sub8_toNat (x y : Byte) (bin : Bool) :
    ((sub8 x y bin).1.toNat : Int) = ((x.toNat : Int) - y.toNat - bin.toNat) % 256 := by
  have complement := toNat_not_add y
  have borrow := toNat_not_add_of_bool bin
  have sum := add8_toNat x (~~~y) !bin
  rw [sub8_fst]
  omega

theorem sub8_cy (x y : Byte) (bin : Bool) : (sub8 x y bin).2.cy = true ↔ x.toNat < y.toNat + bin.toNat := by
  have complement := toNat_not_add y
  have borrow := toNat_not_add_of_bool bin
  have carry := add8_cy x (~~~y) !bin
  rw [sub8_cy_eq, Bool.not_eq_true', ← Bool.not_eq_true, carry]
  omega

theorem sub8_ac (x y : Byte) (bin : Bool) :
    (sub8 x y bin).2.ac = true ↔ y.toNat % 16 + bin.toNat ≤ x.toNat % 16 := by
  have complement := toNat_not_add y
  have borrow := toNat_not_add_of_bool bin
  have carry := add8_ac x (~~~y) !bin
  rw [sub8_ac_eq, carry]
  omega

theorem sub8_zsp (x y : Byte) (bin : Bool) : zspOf (sub8 x y bin).1 (sub8 x y bin).2 := zspWith_zspOf _ _ _

/-! ### By one (R144, R146) -/

theorem inr8_toNat (v : Byte) (f : Flags) : (inr8 v f).1.toNat = (v.toNat + 1) % 256 := BitVec.toNat_add v 1#8

theorem inr8_ac (v : Byte) (f : Flags) : (inr8 v f).2.ac = true ↔ (inr8 v f).1.toNat % 16 = 0 := by
  simp [inr8, zspWith, lowNibble_eq]

theorem inr8_zsp (v : Byte) (f : Flags) : zspOf (inr8 v f).1 (inr8 v f).2 := zspWith_zspOf _ _ _

theorem dcr8_toNat (v : Byte) (f : Flags) : (dcr8 v f).1.toNat = (v.toNat + 255) % 256 := by
  rw [Nat.add_comm]
  exact BitVec.toNat_sub v 1#8

theorem dcr8_ac (v : Byte) (f : Flags) : (dcr8 v f).2.ac = true ↔ (dcr8 v f).1.toNat % 16 ≠ 15 := by
  simp [dcr8, zspWith, lowNibble_eq]

theorem dcr8_zsp (v : Byte) (f : Flags) : zspOf (dcr8 v f).1 (dcr8 v f).2 := zspWith_zspOf _ _ _

/-! ### Sixteen bits (R150) -/

theorem toNat_sum17 (x y : Word) : (x.setWidth 17 + y.setWidth 17 : BitVec 17).toNat = x.toNat + y.toNat := by
  have := x.isLt
  have := y.isLt
  simp
  omega

theorem dad16_toNat (x y : Word) : (dad16 x y).1.toNat = (x.toNat + y.toNat) % 65536 := by
  rw [dad16, BitVec.toNat_setWidth, toNat_sum17]

theorem dad16_carry (x y : Word) : (dad16 x y).2 = true ↔ 65536 ≤ x.toNat + y.toNat := by
  simp only [dad16, BitVec.msb_eq_decide, toNat_sum17, decide_eq_true_eq]

/-! ### The decimal adjust (R151, D13) -/

theorem daaAddLo_iff (x : Byte) (f : Flags) : daaAddLo x f = true ↔ 9 < x.toNat % 16 ∨ f.ac = true := by
  simp [daaAddLo, lowNibble_eq]

/-- The three cases of R151 for the second correction are two: CY, or a byte above 99H. -/
theorem daaAddHi_iff (x : Byte) (f : Flags) : daaAddHi x f = true ↔ 0x99 < x.toNat ∨ f.cy = true := by
  have above : 0x99 < x.toNat ↔ 9 < x.toNat / 16 ∨ 9 ≤ x.toNat / 16 ∧ 9 < x.toNat % 16 := by omega
  simp only [daaAddHi, lowNibble_eq, highNibble_eq, above, Bool.or_eq_true, Bool.and_eq_true, decide_eq_true_eq, gt_iff_lt,
    ge_iff_le]
  exact or_right_comm

theorem daa8_toNat (x : Byte) (f : Flags) :
    (daa8 x f).1.toNat = (x.toNat + (if 9 < x.toNat % 16 ∨ f.ac = true then 6 else 0) +
      (if 0x99 < x.toNat ∨ f.cy = true then 0x60 else 0)) % 256 := by
  simp only [daa8, BitVec.toNat_add, apply_ite BitVec.toNat, BitVec.reduceToNat, daaAddLo_iff, daaAddHi_iff]
  omega

theorem daa8_cy (x : Byte) (f : Flags) : (daa8 x f).2.cy = true ↔ 0x99 < x.toNat ∨ f.cy = true := daaAddHi_iff x f

theorem daa8_ac (x : Byte) (f : Flags) : (daa8 x f).2.ac = true ↔
    16 ≤ x.toNat % 16 + (if 9 < x.toNat % 16 ∨ f.ac = true then 6 else 0) := by
  simp only [daa8, zspWith, lowNibble_eq, daaAddLo_iff, decide_eq_true_eq]
  exact Nat.lt_iff_add_one_le

theorem daa8_zsp (x : Byte) (f : Flags) : zspOf (daa8 x f).1 (daa8 x f).2 := zspWith_zspOf _ _ _

/-! ### Packed BCD (R152) -/

/-- R152 (f) in numbers: 06H where the low digits carry and 60H where the decimal sum reaches 100 make the binary sum of two
packed BCD bytes and a carry the packed BCD of the decimal sum modulo 100. With them it leaves the byte exactly where the
decimal sum reaches 100. -/
theorem bcd_of_corrected_sum {x y u : Byte} {c : Nat} (carryIn : c < 2) (bcdX : isBcd x) (bcdY : isBcd y)
    (corrected : u.toNat = ((x.toNat + y.toNat + c) % 256 + (if 10 ≤ x.toNat % 16 + y.toNat % 16 + c then 6 else 0) +
      (if 100 ≤ bcdValue x + bcdValue y + c then 0x60 else 0)) % 256) :
    isBcd u ∧ bcdValue u = (bcdValue x + bcdValue y + c) % 100 := by
  obtain ⟨tensX, onesX⟩ := bcdX
  obtain ⟨tensY, onesY⟩ := bcdY
  have wraps : u.toNat + (if 100 ≤ bcdValue x + bcdValue y + c then 0x100 else 0) =
      x.toNat + y.toNat + c + (if 10 ≤ x.toNat % 16 + y.toNat % 16 + c then 6 else 0) +
        (if 100 ≤ bcdValue x + bcdValue y + c then 0x60 else 0) := by
    split_ifs at corrected ⊢
    all_goals
      unfold bcdValue at *
      omega
  clear corrected
  split_ifs at wraps
  all_goals
    unfold isBcd
    unfold bcdValue at *
    omega

/-- After `add8` of two packed BCD bytes `daa8` makes the low correction exactly where the low digits carry, and the high
one, which is CY, exactly where the decimal sum reaches 100. -/
theorem daa8_add8_bcd {x y : Byte} (cin : Bool) (bcdX : isBcd x) (bcdY : isBcd y) :
    isBcd (daa8 (add8 x y cin).1 (add8 x y cin).2).1 ∧
      bcdValue (daa8 (add8 x y cin).1 (add8 x y cin).2).1 = (bcdValue x + bcdValue y + cin.toNat) % 100 ∧
      ((daa8 (add8 x y cin).1 (add8 x y cin).2).2.cy = true ↔ 100 ≤ bcdValue x + bcdValue y + cin.toNat) := by
  have ⟨_, onesX⟩ := bcdX
  have ⟨_, onesY⟩ := bcdY
  have carryIn := cin.toNat_lt
  have sum := add8_toNat x y cin
  have low : 9 < (add8 x y cin).1.toNat % 16 ∨ (add8 x y cin).2.ac = true ↔
      10 ≤ x.toNat % 16 + y.toNat % 16 + cin.toNat := by
    rw [add8_ac, sum]
    omega
  have high : 0x99 < (add8 x y cin).1.toNat ∨ (add8 x y cin).2.cy = true ↔
      100 ≤ bcdValue x + bcdValue y + cin.toNat := by
    rw [add8_cy, sum, bcdValue, bcdValue]
    omega
  have corrected := daa8_toNat (add8 x y cin).1 (add8 x y cin).2
  simp only [low, high] at corrected
  rw [sum] at corrected
  obtain ⟨digits, value⟩ := bcd_of_corrected_sum carryIn bcdX bcdY corrected
  exact ⟨digits, value, (daa8_cy _ _).trans high⟩

end Sys2Proof.Machine
end

section
/-! The ways an instruction of the arithmetic group completes (42_arithmetic.md): what `operandIs`, `operandFrame` and
`registerForm` say, shown once of the updates that the shared forms are made of. -/

namespace Sys2Proof.Machine

/-! ### The operand of an accumulator operation -/

@[simp] theorem State.operand_reg (o : Operand8) (r : Reg8) (s : State) : (s.operand o).2.reg r = s.reg r := by
  cases o <;> simp [State.operand]

theorem State.operand_writes (o : Operand8) (s : State) : WritesOnly [] s (s.operand o).2 := by
  cases o with
  | reg r => exact .ofRegisters
  | mem => exact State.readMem_writes s.hl s
  | imm d => exact .ofRegisters

theorem State.operand_operandIs (o : Operand8) (s : State) : operandIs o (s.operand o).1 s := by
  refine ⟨rfl, ?_⟩
  cases o with
  | reg r => rfl
  | imm d => rfl
  | mem => exact fun plain memory => congrArg Prod.fst (State.readMem_plain_memory plain memory)

/-- Once the operand is read, an update that touches nothing but registers and flags, and then the instruction advances. -/
theorem operandFrame_advance {o : Operand8} {rs : List Reg8} {s t : State} (regs : sameRegsBut rs (s.operand o).2 t)
    (sp : t.sp = (s.operand o).2.sp := by simp) (env : sameEnvironment (s.operand o).2 t := by simp [sameEnvironment])
    (mem : t.mem = (s.operand o).2.mem := by simp) (pc : t.pc = (s.operand o).2.pc := by simp)
    (inte : t.inte = (s.operand o).2.inte := by simp) (halted : t.halted = (s.operand o).2.halted := by simp) :
    operandFrame o rs s (t.advance (operandLength o)) := by
  refine ⟨fun r outside => ?others, sp.trans (State.operand_sp o s), env, mem, fun plain => ?memory, ?pc, rfl,
    inte.trans (State.operand_inte o s), halted.trans (State.operand_halted o s)⟩
  case others => rw [State.advance_reg, regs r outside, State.operand_reg]
  case memory =>
    obtain ⟨-, same⟩ := State.operand_writes o s plain
    exact fun x outside => (State.peek_congr mem x).trans (same x outside)
  case pc => rw [State.advance_pc, pc, State.operand_pc]

theorem State.setAcc_sameRegsBut (r : Byte × Flags) (s : State) : sameRegsBut [.a] s (s.setAcc r) := by
  intro q outside
  rw [State.setAcc_reg, if_neg (List.ne_of_not_mem_cons outside)]

/-- The operand is read, A and the flags are written, and the instruction advances. -/
theorem setAcc_operandFrame (o : Operand8) (r : Byte × Flags) (s : State) :
    operandFrame o [.a] s (((s.operand o).2.setAcc r).advance (operandLength o)) :=
  operandFrame_advance (State.setAcc_sameRegsBut r _)

/-! ### One register or pair, and flags -/

/-- A register reads the same whatever the flags are. -/
theorem State.reg_withFlags (r : Reg8) (f : Flags) (s : State) : State.reg r { s with flags := f } = s.reg r := by
  cases r <;> rfl

theorem sameRegsBut_withFlags {rs : List Reg8} {s t : State} (f : Flags) (h : sameRegsBut rs s t) :
    sameRegsBut rs s { t with flags := f } :=
  fun r outside => (State.reg_withFlags r f t).trans (h r outside)

/-- One register and the flags are written, and the instruction advances. -/
theorem setReg_withFlags_advance (len : Word) (r : Reg8) (v : Byte) (f : Flags) (s : State) :
    (State.advance len { s.setReg r v with flags := f }).reg r = v ∧
      registerForm len [r] s (State.advance len { s.setReg r v with flags := f }) ∧
      (State.advance len { s.setReg r v with flags := f }).sp = s.sp := by
  refine ⟨?value, registerForm_advance (sameRegsBut_withFlags f (State.setReg_sameRegsBut r v s)), by simp⟩
  rw [State.advance_reg, State.reg_withFlags, State.setReg_reg, if_pos rfl]

@[simp] theorem State.advance_pair (n : Word) (p : RegPair) (s : State) : (s.advance n).pair p = s.pair p := by
  cases p <;> rfl

/-- One pair is written, and the instruction advances. -/
theorem setPair_advance (len : Word) (p : RegPair) (v : Word) (s : State) :
    ((s.setPair p v).advance len).pair p = v ∧ ((s.setPair p v).advance len).flags = s.flags ∧
      registerForm len (pairRegs p) s ((s.setPair p v).advance len) ∧
      (p ≠ .sp → ((s.setPair p v).advance len).sp = s.sp) := by
  refine ⟨?value, by simp, registerForm_advance (State.setPair_sameRegsBut p v s), fun other => ?sp⟩
  case value => rw [State.advance_pair, State.setPair_pair]
  case sp => rw [State.advance_sp, State.setPair_sp_eq, if_neg other]

/-! ### The byte at HL -/

/-- What INR M and DCR M do: the byte at HL is read, a byte is written there, the flags are set (R145, R147, R55). -/
def State.rewriteHl (w : Byte × Flags) (s : State) : State :=
  State.advance 1#16 { (s.readMem s.hl).2.writeMem s.hl w.1 with flags := w.2 }

theorem exec_inrM (s : State) : exec .inrM s = .next (s.rewriteHl (inr8 (s.readMem s.hl).1 s.flags)) := rfl
theorem exec_dcrM (s : State) : exec .dcrM s = .next (s.rewriteHl (dcr8 (s.readMem s.hl).1 s.flags)) := rfl

@[simp] theorem State.rewriteHl_flags (w : Byte × Flags) (s : State) : (s.rewriteHl w).flags = w.2 := rfl
@[simp] theorem State.rewriteHl_sp (w : Byte × Flags) (s : State) : (s.rewriteHl w).sp = s.sp := by simp [State.rewriteHl]
@[simp] theorem State.rewriteHl_mem (w : Byte × Flags) (s : State) :
    (s.rewriteHl w).mem = ((s.readMem s.hl).2.writeMem s.hl w.1).mem := rfl

theorem State.rewriteHl_sameRegsBut (w : Byte × Flags) (s : State) : sameRegsBut [] s (s.rewriteHl w) := by
  intro r _
  rw [State.rewriteHl, State.advance_reg, State.reg_withFlags, State.writeMem_reg, State.readMem_reg]

theorem State.rewriteHl_samePlatform (w : Byte × Flags) (s : State) :
    samePlatform ((s.readMem s.hl).2.writeMem s.hl w.1) (s.rewriteHl w) := ⟨⟨rfl, rfl, rfl, rfl, rfl⟩, rfl⟩

theorem State.rewriteHl_advances (w : Byte × Flags) (s : State) : advances 1#16 s (s.rewriteHl w) := by
  simp [State.rewriteHl, advances]

theorem State.rewriteHl_writes (w : Byte × Flags) (s : State) : WritesOnly [s.hl] s (s.rewriteHl w) :=
  have both := (State.readMem_writes s.hl s).trans (State.writeMem_writes s.hl w.1 _)
  both.thenRegisters

/-- With no external bus master scheduled a cell of ram at HL holds the byte written. -/
theorem State.rewriteHl_peek {w : Byte × Flags} {s : State} (plain : s.dma = []) (ram : s.kindAt s.hl = .ram) :
    (s.rewriteHl w).peek s.hl = w.1 := by
  have cell : (s.rewriteHl w).peek s.hl = ((s.readMem s.hl).2.writeMem s.hl w.1).peek s.hl := rfl
  rw [cell, State.writeMem_peek (by simp [plain]), State.readMem_kindAt, if_pos ⟨rfl, ram⟩]

/-- With no external bus master scheduled a rewriting by `change` makes that change at HL, where it is ram, and changes no
other cell. -/
theorem State.rewriteHl_cell {w : Byte × Flags} {s : State} (change : Byte → Byte)
    (value : w.1 = change (s.readMem s.hl).1) (plain : s.dma = []) :
    sameMemoryBut [s.hl] s (s.rewriteHl w) ∧
      (s.kindAt s.hl = .ram → (s.rewriteHl w).peek s.hl = change (s.peek s.hl)) := by
  obtain ⟨-, others⟩ := State.rewriteHl_writes w s plain
  refine ⟨others, fun ram => ?_⟩
  rw [State.rewriteHl_peek plain ram, value, State.readMem_plain_memory plain (.inl ram)]

end Sys2Proof.Machine
end

section
/-! O12, O13 and O15 to O20: the arithmetic group (R130 to R152). -/

namespace Sys2Proof.Machine

/-- Settles O12: A and the flags get what `add8` answers; ADD is the sum with no carry. -/
theorem addAndAdcGiveTheSum : Obligations.AddAndAdcGiveTheSum := fun o s =>
  ⟨(s.operand o).1, State.operand_operandIs o s,
    ⟨_, exec_add o s, add8_toNat _ _ false, add8_cy _ _ false, add8_ac _ _ false, add8_zsp _ _ _,
      setAcc_operandFrame o _ s, rfl⟩,
    ⟨_, exec_adc o s, add8_toNat _ _ _, add8_cy _ _ _, add8_ac _ _ _, add8_zsp _ _ _, setAcc_operandFrame o _ s, rfl⟩⟩

/-- Settles O13: A and the flags get what `sub8` answers; SUB is the difference with no borrow. -/
theorem subAndSbbGiveTheDifference : Obligations.SubAndSbbGiveTheDifference := fun o s =>
  have noBorrow := sub8_toNat s.a (s.operand o).1 false
  ⟨(s.operand o).1, State.operand_operandIs o s,
    ⟨_, exec_sub o s, by simpa using noBorrow, sub8_cy _ _ false, sub8_ac _ _ false, sub8_zsp _ _ _,
      setAcc_operandFrame o _ s, rfl⟩,
    ⟨_, exec_sbb o s, sub8_toNat _ _ _, sub8_cy _ _ _, sub8_ac _ _ _, sub8_zsp _ _ _, setAcc_operandFrame o _ s, rfl⟩⟩

/-- Settles O15: one register and the flags are written, by `inr8` and by `dcr8`. -/
theorem inrAndDcrOfARegister : Obligations.InrAndDcrOfARegister := by
  intro r s
  obtain ⟨inrValue, inrFrame⟩ := setReg_withFlags_advance 1#16 r (inr8 (s.reg r) s.flags).1 (inr8 (s.reg r) s.flags).2 s
  obtain ⟨dcrValue, dcrFrame⟩ := setReg_withFlags_advance 1#16 r (dcr8 (s.reg r) s.flags).1 (dcr8 (s.reg r) s.flags).2 s
  refine ⟨⟨_, exec_inr r s, ?inr⟩, ⟨_, exec_dcr r s, ?dcr⟩⟩
  case inr =>
    rw [inrValue]
    exact ⟨inr8_toNat _ _, inr8_zsp _ _, inr8_ac _ _, rfl, inrFrame⟩
  case dcr =>
    rw [dcrValue]
    exact ⟨dcr8_toNat _ _, dcr8_zsp _ _, dcr8_ac _ _, rfl, dcrFrame⟩

/-- Settles O16: the byte at HL is rewritten, by `inr8` and by `dcr8`. -/
theorem inrAndDcrOfMemory : Obligations.InrAndDcrOfMemory := by
  intro s
  refine ⟨⟨_, exec_inrM s, inr8_zsp _ _, ?inrAc, rfl, State.rewriteHl_sameRegsBut _ s, State.rewriteHl_sp _ s,
    State.rewriteHl_samePlatform _ s, rfl, State.rewriteHl_cell (· + 1#8) rfl, State.rewriteHl_advances _ s⟩,
    ⟨_, exec_dcrM s, dcr8_zsp _ _, ?dcrAc, rfl, State.rewriteHl_sameRegsBut _ s, State.rewriteHl_sp _ s,
    State.rewriteHl_samePlatform _ s, rfl, State.rewriteHl_cell (· - 1#8) rfl, State.rewriteHl_advances _ s⟩⟩
  case inrAc =>
    rw [State.rewriteHl_flags, inr8_ac, inr8_toNat]
    omega
  case dcrAc =>
    rw [State.rewriteHl_flags, dcr8_ac, dcr8_toNat]
    omega

/-- Settles O17: one pair is written, with the sum and with the difference. -/
theorem inxAndDcxOfAPair : Obligations.InxAndDcxOfAPair := by
  intro p s
  obtain ⟨inxValue, inxFrame⟩ := setPair_advance 1#16 p (s.pair p + 1#16) s
  obtain ⟨dcxValue, dcxFrame⟩ := setPair_advance 1#16 p (s.pair p - 1#16) s
  refine ⟨⟨_, exec_inx p s, ?inx, inxFrame⟩, ⟨_, exec_dcx p s, ?dcx, dcxFrame⟩⟩
  case inx => rw [inxValue, BitVec.toNat_add]; rfl
  case dcx => rw [dcxValue, BitVec.toNat_sub, Nat.add_comm]; rfl

/-- Settles O18: HL gets the sum of `dad16`, CY its carry. -/
theorem dadAddsAPairToHl : Obligations.DadAddsAPairToHl := by
  intro p s
  refine ⟨_, exec_dad p s, ?sum, dad16_carry _ _, rfl, rfl, rfl, rfl,
    registerForm_advance (sameRegsBut_withFlags _ (State.setPair_sameRegsBut .hl _ s)), rfl⟩
  have hl := State.setPair_hl_hl (dad16 s.hl (s.pair p)).1 s
  exact (congrArg BitVec.toNat hl).trans (dad16_toNat _ _)

/-- Settles O19: A and the flags get what `daa8` answers. -/
theorem daaAdjustsToDecimal : Obligations.DaaAdjustsToDecimal := fun s =>
  ⟨_, rfl, daa8_toNat _ _, daa8_cy _ _, daa8_ac _ _, daa8_zsp _ _,
    registerForm_advance (State.setAcc_sameRegsBut _ s), rfl⟩

/-- Settles O20: ADC leaves `add8`'s sum, carry and half carry to DAA. -/
theorem adcThenDaaAddsPackedBcd : Obligations.AdcThenDaaAddsPackedBcd := fun r s bcdA bcdR =>
  ⟨_, _, exec_adc (.reg r) s, rfl, daa8_add8_bcd s.flags.cy bcdA bcdR⟩

end Sys2Proof.Machine
end

section
/-! What the logical group (43_logical.md) computes, one lemma for each function: the flags of a comparison, AC after an AND,
the bits of a rotate. -/

namespace Sys2Proof.Machine

/-! ### The comparison (R170) -/

theorem sub8_noBorrow (x y : Byte) : (sub8 x y false).1 = x - y := by
  have difference := sub8_toNat x y false
  have := x.isLt
  have := y.isLt
  apply BitVec.eq_of_toNat_eq
  rw [BitVec.toNat_sub]
  simp only [Bool.toNat_false] at difference
  omega

/-- The Z of a difference is equality. -/
theorem sub8_z (x y : Byte) : (sub8 x y false).2.z = true ↔ x = y := by
  obtain ⟨zero, -, -⟩ := sub8_zsp x y false
  rw [zero, sub8_noBorrow]
  exact sub_eq_zero

/-! ### The flags of a logical result (R160) -/

theorem logicFlags_zspOf (r : Byte) (ac : Bool) : zspOf r (logicFlags r ac) := zspWith_zspOf r ac false

theorem acAfterAnd_cleared {rule : Config.AcRule} (x y : Byte) (n : Nat) (h : rule = .cleared) :
    acAfterAnd rule x y n = false := by rw [h]; rfl

theorem acAfterAnd_orBit3 {rule : Config.AcRule} (x y : Byte) (n : Nat) (h : rule = .orBit3) :
    acAfterAnd rule x y n = (x ||| y).getLsbD 3 := by rw [h]; rfl

theorem acDraws_eq (rule : Config.AcRule) : acDraws rule = if rule = .anyValue then 1 else 0 := by cases rule <;> rfl

/-! ### The bits of a rotate (R173 to R176): seven of A's bits move by one place, and a bit enters at the end -/

theorem getLsbD_rotateLeft (v : Byte) (enters : BitVec 1) :
    (∀ k, k < 7 → (v.extractLsb' 0 7 ++ enters).getLsbD (k + 1) = v.getLsbD k) ∧
      (v.extractLsb' 0 7 ++ enters).getLsbD 0 = enters.getLsbD 0 := by
  refine ⟨fun k inside => ?_, ?_⟩
  · rw [BitVec.getLsbD_append, if_neg (by omega)]
    simp [inside]
  · rw [BitVec.getLsbD_append, if_pos (by omega)]

theorem getLsbD_rotateRight (v : Byte) (enters : BitVec 1) :
    (∀ k, k < 7 → (enters ++ v.extractLsb' 1 7).getLsbD k = v.getLsbD (k + 1)) ∧
      (enters ++ v.extractLsb' 1 7).getLsbD 7 = enters.getLsbD 0 := by
  refine ⟨fun k inside => ?_, ?_⟩
  · rw [BitVec.getLsbD_append, if_pos inside]
    simp [inside, Nat.add_comm]
  · rw [BitVec.getLsbD_append, if_neg (by omega)]

end Sys2Proof.Machine
end

section
/-! The ways an instruction of the logical group completes (43_logical.md): what `operandFrame` and `registerForm` say, shown
once of the updates that the shared forms are made of. -/

namespace Sys2Proof.Machine

/-- A is written, and no other register. -/
theorem sameRegsBut_acc {s t : State} (v : Byte) (h : ∀ q, t.reg q = if q = .a then v else s.reg q) :
    sameRegsBut [.a] s t := by
  intro q outside
  rw [h q, if_neg (List.ne_of_not_mem_cons outside)]

/-! ### The AND of an operand -/

/-- The open parameter that gives AC after an AND with `o` (R160, R163). -/
def State.andRule (o : Operand8) (s : State) : Config.AcRule :=
  match o with
  | .reg _ | .mem => s.launch.anaAc
  | .imm _ => s.launch.aniAc

/-- ANA and ANI are one operation, under the rule for the operand's form. -/
theorem exec_ana (o : Operand8) (s : State) :
    exec (.ana o) s = .next (((s.operand o).2.andAcc (s.andRule o) (s.operand o).1).advance (operandLength o)) := by
  cases o with
  | reg r => exact exec_ana_reg r s
  | mem => exact exec_ana_mem s
  | imm d => exact exec_ana_imm d s

@[simp] theorem State.operand_a (o : Operand8) (s : State) : (s.operand o).2.a = s.a := State.operand_reg o .a s

@[simp] theorem State.andAcc_reg (q : Reg8) (rule : Config.AcRule) (v : Byte) (s : State) :
    (s.andAcc rule v).reg q = if q = .a then s.a &&& v else s.reg q := by cases q <;> rfl

/-- The operand is read, A, the flags and the count of free values are written, and the instruction advances. -/
theorem andAcc_operandFrame (o : Operand8) (rule : Config.AcRule) (s : State) :
    operandFrame o [.a] s (((s.operand o).2.andAcc rule (s.operand o).1).advance (operandLength o)) :=
  operandFrame_advance (sameRegsBut_acc _ fun q => State.andAcc_reg q rule _ _) rfl ⟨rfl, rfl, rfl, rfl, rfl⟩ rfl

/-! ### The flags alone, and the rotates -/

/-- The operand is read, the flags are written, and the instruction advances. -/
theorem flags_operandFrame (o : Operand8) (f : Flags) (s : State) :
    operandFrame o [] s (State.advance (operandLength o) { (s.operand o).2 with flags := f }) :=
  operandFrame_advance (sameRegsBut_withFlags f fun _ _ => rfl)

/-- The flags are written, and the instruction advances. -/
theorem flags_registerForm (len : Word) (f : Flags) (s : State) :
    registerForm len [] s (State.advance len { s with flags := f }) :=
  registerForm_advance (sameRegsBut_withFlags f fun _ _ => rfl)

/-- A and CY are written, and the instruction advances. -/
theorem rotated_registerForm (len : Word) (r : Byte) (cy : Bool) (s : State) :
    registerForm len [.a] s ((s.rotated r cy).advance len) :=
  registerForm_advance (sameRegsBut_acc r fun q => State.rotated_reg q r cy s)

end Sys2Proof.Machine
end

section
/-! O14 and O21 to O24: the logical group (R160 to R179). -/

namespace Sys2Proof.Machine

/-- Settles O14: the flags are those `sub8` answers with no borrow, and only they are written. -/
theorem cmpOnlyCompares : Obligations.CmpOnlyCompares := by
  intro o s
  have zsp := sub8_zsp s.a (s.operand o).1 false
  rw [sub8_noBorrow] at zsp
  exact ⟨(s.operand o).1, State.operand_operandIs o s, _, exec_cmp o s, sub8_z _ _, sub8_cy _ _ false, sub8_ac _ _ false,
    zsp, flags_operandFrame o _ s, rfl⟩

/-- Settles O21: ANA and ANI are `State.andAcc` under the rule in force, with the A from before the operand was read. -/
theorem anaAndAniGiveTheAnd : Obligations.AnaAndAniGiveTheAnd := by
  intro o rule s inForce
  obtain rfl : rule = s.andRule o := by cases o <;> exact inForce
  have acc : (s.operand o).2.a = s.a := State.operand_a o s
  refine ⟨(s.operand o).1, State.operand_operandIs o s, _, exec_ana o s, ?value, logicFlags_zspOf _ _, rfl,
    fun cleared => acAfterAnd_cleared _ _ _ cleared, fun orBit3 => ?orBit3, ?draws, andAcc_operandFrame o _ s⟩
  case value => exact congrArg (· &&& _) acc
  case orBit3 => rw [← acc]; exact acAfterAnd_orBit3 _ _ _ orBit3
  case draws => rw [← acDraws_eq]; rfl

/-- Settles O22: A gets the result, and the flags are `logicFlags` of it with AC reset. -/
theorem xraAndOraGiveTheResult : Obligations.XraAndOraGiveTheResult := fun o s =>
  ⟨(s.operand o).1, State.operand_operandIs o s,
    ⟨_, exec_xra o s, rfl, logicFlags_zspOf _ _, rfl, rfl, setAcc_operandFrame o _ s, rfl⟩,
    ⟨_, exec_ora o s, rfl, logicFlags_zspOf _ _, rfl, rfl, setAcc_operandFrame o _ s, rfl⟩⟩

/-- Settles O23: RLC and RAL differ in the bit that enters at the right end, RRC and RAR in the one at the left. -/
theorem rotatesMoveEveryBit : Obligations.RotatesMoveEveryBit := by
  refine ⟨⟨rfl, rfl, rfl, rfl⟩, fun s => ?_⟩
  obtain ⟨rlcMoves, rlcEnters⟩ := getLsbD_rotateLeft s.a (s.a.extractLsb' 7 1)
  obtain ⟨rrcMoves, rrcEnters⟩ := getLsbD_rotateRight s.a (s.a.extractLsb' 0 1)
  obtain ⟨ralMoves, ralEnters⟩ := getLsbD_rotateLeft s.a (BitVec.ofBool s.flags.cy)
  obtain ⟨rarMoves, rarEnters⟩ := getLsbD_rotateRight s.a (BitVec.ofBool s.flags.cy)
  exact ⟨
    ⟨_, rfl, rlcMoves, rlcEnters.trans (by simp), rfl, rfl, rotated_registerForm _ _ _ s, rfl⟩,
    ⟨_, rfl, rrcMoves, rrcEnters.trans (by simp), rfl, rfl, rotated_registerForm _ _ _ s, rfl⟩,
    ⟨_, rfl, ralMoves, ralEnters.trans (by simp), rfl, rfl, rotated_registerForm _ _ _ s, rfl⟩,
    ⟨_, rfl, rarMoves, rarEnters.trans (by simp), rfl, rfl, rotated_registerForm _ _ _ s, rfl⟩⟩

/-- Settles O24: CMA writes A alone, CMC and STC the flags alone. -/
theorem complementsAndSetCarry : Obligations.ComplementsAndSetCarry := by
  refine ⟨⟨rfl, rfl, rfl⟩, fun s => ⟨⟨_, rfl, fun k inside => ?bit, rfl, registerForm_advance ?regs, rfl⟩,
    ⟨_, rfl, rfl, flags_registerForm _ _ s, rfl⟩, ⟨_, rfl, rfl, flags_registerForm _ _ s, rfl⟩⟩⟩
  case bit => exact BitVec.getLsbD_not.trans (by simp [inside])
  case regs => exact sameRegsBut_acc (~~~s.a) fun q => by cases q <;> rfl

end Sys2Proof.Machine
end

section
/-! The ways an instruction of the branch group completes (44_branch.md): it advances, it jumps, it pushes a word and jumps,
or it pops a word and jumps there. What `registerForm`, `transfers`, `pushesWord` and `popsWord` say, shown once of each; and
that a pop takes back the word that was pushed (R54). -/

namespace Sys2Proof.Machine

/-! ### No stack access -/

theorem advance_registerForm (len : Word) (s : State) : registerForm len [] s (s.advance len) :=
  registerForm_advance fun _ _ => rfl

theorem State.jumpTo_sameRegsBut (target : Word) (s : State) : sameRegsBut [] s (s.jumpTo target) :=
  fun r _ => State.jumpTo_reg r target s

/-- A jump changes PC and EI_SHADOW, and nothing else (R190, R33). -/
theorem jumpTo_completes (target : Word) (s : State) :
    sameRegsBut [] s (s.jumpTo target) ∧ (s.jumpTo target).sp = s.sp ∧ (s.jumpTo target).flags = s.flags ∧
      samePlatform s (s.jumpTo target) ∧ storesNothing s (s.jumpTo target) ∧ transfers target s (s.jumpTo target) :=
  ⟨State.jumpTo_sameRegsBut target s, rfl, rfl, ⟨⟨rfl, rfl, rfl, rfl, rfl⟩, rfl⟩, storesNothing_of_mem rfl,
    ⟨rfl, rfl, rfl, rfl⟩⟩

/-! ### The stack -/

/-- Both stack bytes are stored: they are different cells, also where SP wraps. -/
theorem State.push16_cells {v : Word} {s : State} (plain : s.dma = []) :
    cellAfterStore (s.sp - 1#16) (hiByte v) s (s.push16 v) ∧ cellAfterStore (s.sp - 2#16) (loByte v) s (s.push16 v) := by
  have apart : s.sp - 1#16 ≠ s.sp - 2#16 := by bv_omega
  simp [cellAfterStore, State.push16_peek plain, apart]

/-- What an instruction does to the registers other than SP after a push does not matter. -/
theorem pushesWord_thenRegisters {v : Word} {s t : State} (sp : t.sp = s.sp - 2#16 := by rfl)
    (platform : samePlatform (s.push16 v) t := by simp [samePlatform, sameEnvironment])
    (mem : t.mem = (s.push16 v).mem := by rfl) : pushesWord v s t := by
  refine ⟨sp, platform, mem, fun plain => ?_⟩
  have sameCells (x : Word) : t.peek x = (s.push16 v).peek x := State.peek_congr mem x
  obtain ⟨high, low⟩ := State.push16_cells (v := v) plain
  obtain ⟨-, others⟩ := State.push16_writes v s plain
  exact ⟨(sameCells _).trans high, (sameCells _).trans low, fun x outside => (sameCells x).trans (others x outside)⟩

/-- What an instruction does to the registers other than SP after a pop does not matter. -/
theorem popsWord_thenRegisters {s t : State} (sp : t.sp = s.sp + 2#16 := by rfl)
    (platform : samePlatform s.pop16.2 t := by simp [samePlatform, sameEnvironment])
    (mem : t.mem = s.pop16.2.mem := by rfl) : popsWord s.pop16.1 s t := by
  refine ⟨rfl, sp, platform, mem, fun plain => ⟨?memory, State.pop16_value plain⟩⟩
  exact fun x _ => (State.peek_congr mem x).trans (State.pop16_peek plain x)

/-- A pop takes back the word that was pushed, where both stack bytes are ram and no external bus master is scheduled. -/
theorem pop16_of_pushesWord {v : Word} {s t : State} (pushed : pushesWord v s t) (plain : s.dma = [])
    (highRam : s.kindAt (s.sp - 1#16) = .ram) (lowRam : s.kindAt (s.sp - 2#16) = .ram) : t.pop16.1 = v := by
  obtain ⟨sp, ⟨⟨launch, -, dma, -, -⟩, -⟩, -, cells⟩ := pushed
  obtain ⟨high, low, -⟩ := cells plain
  obtain ⟨unscheduled, -⟩ := State.push16_writes v s plain
  have sameKind (x : Word) : t.kindAt x = s.kindAt x := State.kindAt_congr (by simpa using launch) x
  have plainAfter : t.dma = [] := dma.trans unscheduled
  have next : t.sp + 1#16 = s.sp - 1#16 := by rw [sp]; bv_omega
  rw [cellAfterStore, if_pos highRam] at high
  rw [cellAfterStore, if_pos lowRam] at low
  calc t.pop16.1
      = joinBytes (t.peek (t.sp + 1#16)) (t.peek t.sp) :=
        State.pop16_value plainAfter (.inl (by rw [sameKind, sp, lowRam])) (.inl (by rw [sameKind, next, highRam]))
    _ = joinBytes (hiByte v) (loByte v) := by rw [next, high, sp, low]
    _ = v := joinBytes_halves v

/-- A call pushes the address of the next instruction and jumps (R192). -/
theorem callTo_completes (len target : Word) (s : State) :
    pushesWord (s.pc + len) s (s.callTo len target) ∧ sameRegsBut [] s (s.callTo len target) ∧
      (s.callTo len target).flags = s.flags ∧ transfers target s (s.callTo len target) := by
  unfold State.callTo
  exact ⟨pushesWord_thenRegisters, fun r _ => by simp, by simp, by simp [transfers]⟩

/-- A return pops the address it jumps to (R194). -/
theorem returnFrom_completes (s : State) :
    popsWord s.pop16.1 s s.returnFrom ∧ sameRegsBut [] s s.returnFrom ∧ s.returnFrom.flags = s.flags ∧
      transfers s.pop16.1 s s.returnFrom := by
  unfold State.returnFrom
  exact ⟨popsWord_thenRegisters, fun r _ => by simp, by simp, by simp [transfers]⟩

end Sys2Proof.Machine
end

section
/-! O26 to O28 and O58: the branch group (R190 to R198). -/

namespace Sys2Proof.Machine

/-- Settles O26: the three jumps are `State.jumpTo`, and Jcc with a false condition is `State.advance`. -/
theorem jumpsTransferControl : Obligations.JumpsTransferControl := by
  intro cond addr s
  refine ⟨⟨_, rfl, jumpTo_completes addr s⟩, ⟨_, exec_jumpIf cond addr s, ?jumpIf⟩, ⟨_, rfl, jumpTo_completes s.hl s⟩⟩
  by_cases taken : condHolds cond s.flags = true
  case pos =>
    obtain ⟨regs, sp, flags, platform, memory, transferred⟩ := jumpTo_completes addr s
    rw [if_pos taken]
    exact ⟨regs, sp, flags, platform, memory, fun _ => transferred, fun fails => absurd taken (by simp [fails])⟩
  case neg =>
    obtain ⟨regs, platform, memory, advanced⟩ := advance_registerForm 3#16 s
    rw [if_neg taken]
    exact ⟨regs, rfl, rfl, platform, memory, fun holds => absurd holds taken, fun _ => advanced⟩

/-- Settles O27: the calls are `State.callTo`, and Ccc with a false condition is `State.advance`. -/
theorem callsPushTheReturnAddress : Obligations.CallsPushTheReturnAddress := by
  intro cond n addr s
  refine ⟨⟨_, rfl, callTo_completes 3#16 addr s⟩, ⟨_, exec_callIf cond addr s, fun holds => ?taken, fun fails => ?notTaken⟩,
    ⟨_, exec_rst n s, ?restart⟩⟩
  case taken => rw [if_pos holds]; exact callTo_completes 3#16 addr s
  case notTaken => rw [if_neg (by simp [fails])]; exact ⟨advance_registerForm 3#16 s, rfl, rfl⟩
  case restart =>
    obtain ⟨pushed, regs, flags, transferred⟩ := callTo_completes 1#16 (restartTarget n) s
    exact ⟨pushed, regs, flags, by cases n <;> exact transferred⟩

/-- Settles O28: the returns are `State.returnFrom`, and Rcc with a false condition is `State.advance`. -/
theorem returnsPopTheAddress : Obligations.ReturnsPopTheAddress := by
  intro cond s
  refine ⟨⟨_, _, rfl, returnFrom_completes s⟩, ⟨_, exec_returnIf cond s, fun holds => ?taken, fun fails => ?notTaken⟩⟩
  case taken => rw [if_pos holds]; exact ⟨_, returnFrom_completes s⟩
  case notTaken => rw [if_neg (by simp [fails])]; exact ⟨advance_registerForm 1#16 s, rfl, rfl⟩

/-- Settles O58: RET pops the word that CALL has pushed. -/
theorem callThenReturnResumes : Obligations.CallThenReturnResumes := by
  intro addr s plain highRam lowRam
  obtain ⟨pushed, regs, flags, target, -⟩ := callTo_completes 3#16 addr s
  obtain ⟨⟨-, spAfter, -⟩, regsAfter, flagsAfter, pcAfter, -⟩ := returnFrom_completes (s.callTo 3#16 addr)
  have spAtReturn : (s.callTo 3#16 addr).sp = s.sp - 2#16 := rfl
  refine ⟨_, _, rfl, target, rfl, ?pc, ?sp, fun r inside => (regsAfter r inside).trans (regs r inside),
    flagsAfter.trans flags⟩
  case pc => exact pcAfter.trans (pop16_of_pushesWord pushed plain highRam lowRam)
  case sp => rw [spAfter, spAtReturn, BitVec.sub_add_cancel]

end Sys2Proof.Machine
end

section
/-! The flag byte of PSW (R29): which bit each flag is, and that loading the byte gives the flags back. -/

namespace Sys2Proof.Machine

theorem flagByte_bits (f : Flags) :
    (flagByte f).getLsbD 7 = f.s ∧ (flagByte f).getLsbD 6 = f.z ∧ (flagByte f).getLsbD 5 = false ∧
      (flagByte f).getLsbD 4 = f.ac ∧ (flagByte f).getLsbD 3 = false ∧ (flagByte f).getLsbD 2 = f.p ∧
      (flagByte f).getLsbD 1 = true ∧ (flagByte f).getLsbD 0 = f.cy := by
  obtain ⟨s, z, ac, p, cy⟩ := f
  revert s z ac p cy
  decide

@[simp] theorem flagsOfByte_flagByte (f : Flags) : flagsOfByte (flagByte f) = f := by
  obtain ⟨s, z, -, ac, -, p, -, cy⟩ := flagByte_bits f
  rw [flagsOfByte, s, z, ac, p, cy]

end Sys2Proof.Machine
end

section
/-! The ways an instruction of the stack, I/O and control group completes (45_stack_io_control.md). The word that PUSH and POP
move is the pair; XTHL is one update, `State.exchanged`; IN and OUT are one access to a port; the interrupt controls and HLT
are one update of PC and the control bits, `State.withControl`. -/

namespace Sys2Proof.Machine

/-! ### PUSH and POP -/

/-- A pair is a function of the registers and the flags. -/
theorem State.stackPair_congr {s t : State} (regs : sameRegsBut [] s t) (flags : t.flags = s.flags) (p : StackPair) :
    t.stackPair p = s.stackPair p := by
  have same (r : Reg8) : t.reg r = s.reg r := regs r List.not_mem_nil
  cases p with
  | bc => exact congrArg₂ joinBytes (same .b) (same .c)
  | de => exact congrArg₂ joinBytes (same .d) (same .e)
  | hl => exact congrArg₂ joinBytes (same .h) (same .l)
  | psw => exact congrArg₂ joinBytes (same .a) (congrArg flagByte flags)

/-- Loading a pair with what it holds changes nothing; for PSW because the flag byte gives the flags back. -/
theorem State.setStackPair_stackPair (p : StackPair) (s : State) : s.setStackPair p (s.stackPair p) = s := by
  cases p <;> simp [State.setStackPair, State.stackPair]

theorem State.setStackPair_sameRegsBut (p : StackPair) (v : Word) (s : State) :
    sameRegsBut (stackPairRegs p) s (s.setStackPair p v) := by
  intro r outside
  cases p with
  | bc => exact State.setPair_sameRegsBut .bc v s r outside
  | de => exact State.setPair_sameRegsBut .de v s r outside
  | hl => exact State.setPair_sameRegsBut .hl v s r outside
  | psw => exact State.setAcc_sameRegsBut (hiByte v, flagsOfByte (loByte v)) s r outside

/-- The state after PUSH (R210, R211). -/
def State.pushed (p : StackPair) (s : State) : State := (s.push16 (s.stackPair p)).advance 1#16

theorem exec_push_pushed (p : StackPair) (s : State) : exec (.push p) s = .next (s.pushed p) := exec_push p s

/-- The pair is pushed, and the instruction advances. -/
theorem State.pushed_completes (p : StackPair) (s : State) :
    pushesWord (s.stackPair p) s (s.pushed p) ∧ sameRegsBut [] s (s.pushed p) ∧ (s.pushed p).flags = s.flags ∧
      advances 1#16 s (s.pushed p) := by
  unfold State.pushed
  exact ⟨pushesWord_thenRegisters, fun r _ => by simp, by simp, by simp [advances]⟩

/-- The state after POP (R212, R213). -/
def State.popped (p : StackPair) (s : State) : State := (s.pop16.2.setStackPair p s.pop16.1).advance 1#16

theorem exec_pop_popped (p : StackPair) (s : State) : exec (.pop p) s = .next (s.popped p) := exec_pop p s

/-- A word is popped into a pair, and the instruction advances. -/
theorem State.popped_completes (p : StackPair) (s : State) :
    popsWord s.pop16.1 s (s.popped p) ∧ sameRegsBut (stackPairRegs p) s (s.popped p) ∧ advances 1#16 s (s.popped p) := by
  unfold State.popped
  refine ⟨popsWord_thenRegisters (by simp) (by simp [samePlatform, sameEnvironment]) (by simp), fun r outside => ?others,
    by simp [advances]⟩
  rw [State.advance_reg, State.setStackPair_sameRegsBut p _ _ r outside, State.pop16_reg]

/-- Where the word on top of the stack is the pair, POP changes SP and PC alone of the CPU's registers. -/
theorem State.popped_of_top {p : StackPair} {s : State} (top : s.pop16.1 = s.stackPair p) :
    s.popped p = s.pop16.2.advance 1#16 := by
  have pair : s.pop16.2.stackPair p = s.stackPair p := State.stackPair_congr (fun r _ => by simp) (by simp) p
  rw [State.popped, top, ← pair, State.setStackPair_stackPair]

/-! ### XTHL -/

/-- The state after XTHL (R214). -/
def State.exchanged (s : State) : State :=
  ((((s.readMem16 s.sp).2.writeMem (s.sp + 1#16) s.h).writeMem s.sp s.l).setPair .hl (s.readMem16 s.sp).1).advance 1#16

theorem exec_xthl (s : State) : exec .xthl s = .next s.exchanged := rfl

@[simp] theorem State.exchanged_l (s : State) : s.exchanged.l = (s.readMem s.sp).1 := loByte_joinBytes _ _
@[simp] theorem State.exchanged_h (s : State) : s.exchanged.h = ((s.readMem s.sp).2.readMem (s.sp + 1#16)).1 :=
  hiByte_joinBytes _ _
@[simp] theorem State.exchanged_sp (s : State) : s.exchanged.sp = s.sp := by simp [State.exchanged]
@[simp] theorem State.exchanged_flags (s : State) : s.exchanged.flags = s.flags := by simp [State.exchanged]
@[simp] theorem State.exchanged_kindAt (x : Word) (s : State) : s.exchanged.kindAt x = s.kindAt x := by
  simp [State.exchanged]

theorem State.exchanged_mem (s : State) :
    s.exchanged.mem = (((s.readMem16 s.sp).2.writeMem (s.sp + 1#16) s.h).writeMem s.sp s.l).mem := rfl

theorem State.exchanged_sameRegsBut (s : State) : sameRegsBut [.h, .l] s s.exchanged := by
  intro r outside
  rw [State.exchanged, State.advance_reg, State.setPair_sameRegsBut .hl _ _ r outside, State.writeMem_reg,
    State.writeMem_reg, State.readMem16_reg]

theorem State.exchanged_writes (s : State) : WritesOnly [s.sp + 1#16, s.sp] s s.exchanged :=
  (exchangeTop_writes s).writesOnly

/-- With no external bus master scheduled the two cells hold L and H, where they are ram: they are different cells, also
where SP wraps. -/
theorem State.exchanged_cells {s : State} (plain : s.dma = []) :
    cellAfterStore s.sp s.l s s.exchanged ∧ cellAfterStore (s.sp + 1#16) s.h s s.exchanged := by
  have apart : s.sp ≠ s.sp + 1#16 := by bv_omega
  obtain ⟨plainAfterRead, read⟩ := State.readMem16_writes s.sp s plain
  have cell (y : Word) : s.exchanged.peek y =
      if y = s.sp ∧ s.kindAt s.sp = .ram then s.l
      else if y = s.sp + 1#16 ∧ s.kindAt (s.sp + 1#16) = .ram then s.h else s.peek y := by
    rw [State.peek_congr (State.exchanged_mem s), State.writeMem_peek (by simp [plainAfterRead]),
      State.writeMem_peek plainAfterRead, read y List.not_mem_nil]
    simp
  simp [cellAfterStore, cell, apart, apart.symm]

theorem State.exchanged_l_memory {s : State} (plain : s.dma = []) (memory : s.isMemory s.sp) :
    s.exchanged.l = s.peek s.sp := by
  rw [State.exchanged_l, State.readMem_plain_memory plain memory]

theorem State.exchanged_h_memory {s : State} (plain : s.dma = []) (memory : s.isMemory (s.sp + 1#16)) :
    s.exchanged.h = s.peek (s.sp + 1#16) := by
  rw [State.exchanged_h, State.readMem16_second plain memory]

/-- With the top of the stack in ram and no external bus master scheduled, XTHL swaps the two registers with the two cells
and changes no other cell. -/
theorem State.exchanged_swaps {s : State} (plain : s.dma = []) (lowRam : s.kindAt s.sp = .ram)
    (highRam : s.kindAt (s.sp + 1#16) = .ram) :
    (s.exchanged.l = s.peek s.sp ∧ s.exchanged.h = s.peek (s.sp + 1#16)) ∧
      (s.exchanged.peek s.sp = s.l ∧ s.exchanged.peek (s.sp + 1#16) = s.h) ∧
      sameMemoryBut [s.sp + 1#16, s.sp] s s.exchanged := by
  obtain ⟨low, high⟩ := State.exchanged_cells plain
  obtain ⟨-, others⟩ := State.exchanged_writes s plain
  exact ⟨⟨State.exchanged_l_memory plain (.inl lowRam), State.exchanged_h_memory plain (.inl highRam)⟩,
    ⟨low.trans (if_pos lowRam), high.trans (if_pos highRam)⟩, others⟩

/-! ### IN and OUT -/

theorem State.ioRead_scripted {p v : Byte} {rest : List (Source × Byte)} {s : State}
    (h : takeInput (.port p) s.inputs = some (v, rest)) : s.ioRead p = (v, { s.busSlot with inputs := rest }) := by
  rw [← State.busSlot_inputs] at h
  rw [State.ioRead, State.input, h]

theorem State.ioRead_free {p : Byte} {s : State} (h : takeInput (.port p) s.inputs = none) :
    s.ioRead p = (Config.portIn p s.draws, { s.busSlot with draws := s.draws + 1 }) := by
  rw [← State.busSlot_inputs] at h
  rw [State.ioRead, State.input, h, State.busSlot_draws]
  rfl

theorem exec_inPort (p : Byte) (s : State) :
    exec (.inPort p) s = .next (((s.ioRead p).2.setReg .a (s.ioRead p).1).advance 2#16) := rfl

theorem exec_outPort (p : Byte) (s : State) : exec (.outPort p) s = .next ((s.ioWrite p s.a).advance 2#16) := rfl

/-! ### EI, DI, HLT and NOP -/

/-- PC and the three control bits are written. -/
def State.withControl (pc : Word) (inte eiShadow halted : Bool) (s : State) : State :=
  { s with pc := pc, inte := inte, eiShadow := eiShadow, halted := halted }

theorem exec_ei (s : State) : exec .ei s = .next (s.withControl (s.pc + 1#16) true true s.halted) := rfl
theorem exec_di (s : State) : exec .di s = .next (s.withControl (s.pc + 1#16) false false s.halted) := rfl
theorem exec_hlt (s : State) : exec .hlt s = .next (s.withControl (s.pc + 1#16) s.inte false true) := rfl

/-- Nothing but PC and the control bits changes. -/
theorem State.withControl_frame (pc : Word) (inte eiShadow halted : Bool) (s : State) :
    sameRegsBut [] s (s.withControl pc inte eiShadow halted) ∧ (s.withControl pc inte eiShadow halted).sp = s.sp ∧
      (s.withControl pc inte eiShadow halted).flags = s.flags ∧ samePlatform s (s.withControl pc inte eiShadow halted) ∧
      storesNothing s (s.withControl pc inte eiShadow halted) :=
  ⟨fun r _ => by cases r <;> rfl, rfl, rfl, ⟨⟨rfl, rfl, rfl, rfl, rfl⟩, rfl⟩, storesNothing_of_mem rfl⟩

end Sys2Proof.Machine
end

section
/-! O29 to O34, O56 and O57: the stack, I/O and control group (R210 to R221). -/

namespace Sys2Proof.Machine

/-- Settles O29: the pair is pushed; for PSW `flagByte_bits` says what its low byte is. -/
theorem pushStoresAPair : Obligations.PushStoresAPair := by
  intro p s
  refine ⟨_, hiByte (s.stackPair p), loByte (s.stackPair p), exec_push_pushed p s, ?halves, ?frame⟩
  case halves =>
    cases p with
    | bc | de | hl => exact ⟨hiByte_joinBytes _ _, loByte_joinBytes _ _⟩
    | psw =>
      rw [State.stackPair, hiByte_joinBytes, loByte_joinBytes]
      exact ⟨rfl, flagByte_bits s.flags⟩
  case frame =>
    rw [joinBytes_halves]
    exact State.pushed_completes p s

/-- Settles O30: the word on top of the stack is popped into the pair. -/
theorem popLoadsAPair : Obligations.PopLoadsAPair := by
  intro p s
  obtain ⟨pops, others, advanced⟩ := State.popped_completes p s
  refine ⟨_, hiByte s.pop16.1, loByte s.pop16.1, exec_pop_popped p s, ?word, ?halves, others, advanced⟩
  case word => rwa [joinBytes_halves]
  case halves =>
    cases p with
    | bc | de | hl => exact ⟨rfl, rfl, State.pop16_flags s⟩
    | psw => exact ⟨rfl, rfl, rfl, rfl, rfl, rfl⟩

/-- Settles O31: XTHL is `State.exchanged`. -/
theorem xthlExchangesTheTop : Obligations.XthlExchangesTheTop := by
  intro s
  refine ⟨_, exec_xthl s, State.exchanged_l s, State.exchanged_h s, State.exchanged_sameRegsBut s, State.exchanged_sp s,
    State.exchanged_flags s, by simp [State.exchanged, samePlatform, sameEnvironment], State.exchanged_mem s,
    fun plain => ?memory, by simp [State.exchanged, advances]⟩
  obtain ⟨low, high⟩ := State.exchanged_cells plain
  obtain ⟨-, others⟩ := State.exchanged_writes s plain
  exact ⟨low, high, fun x outside => others x (by simpa [and_comm] using outside), State.exchanged_l_memory plain,
    State.exchanged_h_memory plain⟩

/-- Settles O56: POP finds on top of the stack the word that PUSH has pushed, which is still the pair. -/
theorem pushThenPopRestores : Obligations.PushThenPopRestores := by
  intro p s plain highRam lowRam
  obtain ⟨pushed, regs, flags, pc, -⟩ := State.pushed_completes p s
  have top : (s.pushed p).pop16.1 = (s.pushed p).stackPair p := by
    rw [pop16_of_pushesWord pushed plain highRam lowRam, State.stackPair_congr regs flags]
  refine ⟨_, (s.pushed p).pop16.2.advance 1#16, exec_push_pushed p s, ?pop, fun r inside => ?regs, ?flags, ?sp, ?pc⟩
  case pop => rw [exec_pop_popped, State.popped_of_top top]
  case regs => rw [State.advance_reg, State.pop16_reg, regs r inside]
  case flags => rw [State.advance_flags, State.pop16_flags, flags]
  case sp => exact BitVec.sub_add_cancel s.sp 2#16
  case pc => rw [State.advance_pc, State.pop16_pc, pc, BitVec.add_assoc]; rfl

/-- Settles O57: the second exchange swaps back what the first has swapped. -/
theorem xthlTwiceRestores : Obligations.XthlTwiceRestores := by
  intro s plain lowRam highRam
  obtain ⟨⟨l, h⟩, ⟨low, high⟩, others⟩ := State.exchanged_swaps plain lowRam highRam
  obtain ⟨plainAfter, -⟩ := State.exchanged_writes s plain
  obtain ⟨⟨l', h'⟩, ⟨low', high'⟩, others'⟩ :=
    State.exchanged_swaps plainAfter (by simpa using lowRam) (by simpa using highRam)
  rw [State.exchanged_sp] at l' h' low' high' others'
  refine ⟨_, _, exec_xthl s, exec_xthl _, fun r _ => ?regs, fun x _ => ?memory, by simp, by simp⟩
  case regs =>
    by_cases pair : r ∈ [Reg8.h, .l]
    · obtain rfl | rfl : r = .h ∨ r = .l := by simpa using pair
      · exact h'.trans high
      · exact l'.trans low
    · rw [State.exchanged_sameRegsBut _ r pair, State.exchanged_sameRegsBut _ r pair]
  case memory =>
    by_cases top : x ∈ [s.sp + 1#16, s.sp]
    · obtain rfl | rfl : x = s.sp + 1#16 ∨ x = s.sp := by simpa using top
      · exact high'.trans h
      · exact low'.trans l
    · exact (others' x top).trans (others x top)

/-- Settles O32: A gets what the port answers, by the script or as a free value. -/
theorem inTakesAByteFromThePort : Obligations.InTakesAByteFromThePort := by
  intro port s
  refine ⟨_, exec_inPort port s, fun v rest scripted => ?scripted, fun unscripted => ?free, fun r outside => ?others,
    by simp, by simp, by simp, by simp, by simp, by simp, fun plain => ⟨storesNothing_of_mem ?mem, ?outputs⟩,
    by simp [advances]⟩
  case scripted =>
    rw [State.ioRead_scripted scripted]
    exact ⟨rfl, rfl, State.busSlot_draws s⟩
  case free =>
    rw [State.ioRead_free unscripted]
    exact ⟨rfl, State.busSlot_inputs s, rfl⟩
  case others => rw [State.advance_reg, State.setReg_sameRegsBut .a _ _ r outside, State.ioRead_reg]
  case mem => simp [plain]
  case outputs => simp [plain]

/-- Settles O33: the access is a slot of the bus master and then the event. -/
theorem outRecordsAnEvent : Obligations.OutRecordsAnEvent := by
  intro port s
  refine ⟨_, exec_outPort port s, rfl, fun r _ => by simp, by simp, by simp, by simp, by simp, by simp, by simp, by simp,
    fun plain => ⟨storesNothing_of_mem ?mem, ?outputs⟩, by simp [advances]⟩
  case mem => simp [plain]
  case outputs => rw [State.advance_outputs, State.ioWrite, State.busSlot_plain plain]

/-- Settles O34: EI, DI and HLT write PC and the control bits; NOP only advances. -/
theorem controlInstructionsSetTheirBits : Obligations.ControlInstructionsSetTheirBits := fun s =>
  ⟨⟨_, exec_ei s, rfl, rfl, rfl, rfl, State.withControl_frame _ _ _ _ s⟩,
    ⟨_, exec_di s, rfl, rfl, rfl, rfl, State.withControl_frame _ _ _ _ s⟩,
    ⟨_, exec_hlt s, rfl, rfl, rfl, rfl, State.withControl_frame _ _ _ _ s⟩,
    ⟨_, rfl, advance_registerForm 1#16 s, rfl, rfl⟩⟩

end Sys2Proof.Machine
end

section
/-! O37: an instruction can fault only as one of the 12 unlisted rows (R92). -/

namespace Sys2Proof.Machine

/-- Settles O37: the meaning of each listed row is a next state, in every state; only the choice of R92 can be a fault,
and the rows that make it are not well-formed. -/
theorem everyListedInstructionCompletes : Obligations.EveryListedInstructionCompletes := by
  intro i s listed
  cases i with
  | unlisted08 | unlisted10 | unlisted18 | unlisted20 | unlisted28 | unlisted30 | unlisted38 | unlistedCB _ | unlistedD9
  | unlistedDD _ | unlistedED _ | unlistedFD _ => exact absurd listed Bool.false_ne_true
  | _ => exact ⟨_, rfl⟩

end Sys2Proof.Machine
end

section
/-! The step at a boundary where an interrupt is accepted (R234 to R236): which bytes are restarts, what the acknowledge
answers for each byte, and how taking the interrupt completes. -/

namespace Sys2Proof.Machine

/-! ### The byte the device supplies -/

theorem encode_rst (n : Octal) : encode (.rst n) = [rowByte 3#2 n .o7] := by cases n <;> rfl

theorem restartNumber_rowByte (n : Octal) : restartNumber (rowByte 3#2 n .o7) = some n := by cases n <;> rfl

/-- A byte of the form `11nnn111` is the row of `RST n`. -/
theorem rowByte_of_restart : ∀ op : Byte, op &&& 0xC7#8 = 0xC7#8 → rowByte 3#2 (midDigit op) .o7 = op := by decide

/-- The acknowledge reads the restart number that the encoder writes (R87, R235). -/
theorem restartNumber_eq_some_iff {op : Byte} {n : Octal} : restartNumber op = some n ↔ encode (.rst n) = [op] := by
  rw [encode_rst, List.singleton_inj]
  constructor
  case mp =>
    intro h
    obtain ⟨form, rfl⟩ : op &&& 0xC7#8 = 0xC7#8 ∧ midDigit op = n := by simpa [restartNumber] using h
    exact rowByte_of_restart op form
  case mpr =>
    rintro rfl
    exact restartNumber_rowByte n

theorem restartNumber_eq_none {op : Byte} (h : ∀ n, encode (.rst n) ≠ [op]) : restartNumber op = none :=
  Option.eq_none_iff_forall_ne_some.mpr fun n number => h n (restartNumber_eq_some_iff.mp number)

theorem State.acknowledge_restart {op : Byte} {n : Octal} (h : encode (.rst n) = [op]) (s : State) :
    s.acknowledge op = .next (s.busSlot.takeInterrupt n) := by
  rw [State.acknowledge, restartNumber_eq_some_iff.mpr h]

theorem State.acknowledge_other {op : Byte} (h : ∀ n, encode (.rst n) ≠ [op]) (s : State) :
    s.acknowledge op = .refused (.unsupportedInterruptInstruction op) := by
  rw [State.acknowledge, restartNumber_eq_none h]

/-! ### The step -/

/-- While interrupts are effective a request is acknowledged, whether the machine is halted or not (R234, R241). -/
theorem step_of_request {s : State} {b : Boundary} {later : List Boundary} {op : Byte} (entry : s.env = b :: later)
    (noReset : b.reset = false) (request : b.int = some op) (inte : s.inte = true) (noShadow : s.eiShadow = false) :
    step s = State.acknowledge op { s with env := later } := by
  have popped : s.popBoundary = (b, { s with env := later }) := by rw [State.popBoundary, entry]
  have action : State.boundaryAction b { s with env := later } = .acknowledge op := by
    simp [State.boundaryAction, State.accepting, noReset, request, inte, noShadow]
  unfold step
  rw [popped]
  dsimp only
  rw [action]

/-- Where the device supplies `RST n`, the interrupt is taken after the slot of the acknowledge's bus access. -/
theorem step_of_restart {s : State} {b : Boundary} {later : List Boundary} {n : Octal} {op : Byte}
    (entry : s.env = b :: later) (noReset : b.reset = false) (request : b.int = some op)
    (restart : encode (.rst n) = [op]) (inte : s.inte = true) (noShadow : s.eiShadow = false) :
    step s = .next ((State.busSlot { s with env := later }).takeInterrupt n) := by
  rw [step_of_request entry noReset request inte noShadow, State.acknowledge_restart restart]

theorem State.reg_withEnv (r : Reg8) (later : List Boundary) (s : State) :
    State.reg r { s with env := later } = s.reg r := by
  cases r <;> rfl

/-! ### Taking the interrupt: the control bits are cleared, the unincremented PC is pushed, control goes to 8n (R236) -/

theorem toNat_restartTarget (n : Octal) : (restartTarget n).toNat = 8 * n.toNat := by cases n <;> rfl

@[simp] theorem State.push16_dma (v : Word) (s : State) : (s.push16 v).dma = s.dma.drop 2 := by
  simp [State.push16, ← List.drop_one]

/-- With no external bus master scheduled a push is an event only where the stack is a device (R67). -/
theorem State.push16_outputs {v : Word} {s : State} (plain : s.dma = []) (high : s.kindAt (s.sp - 1#16) ≠ .device)
    (low : s.kindAt (s.sp - 2#16) ≠ .device) : (s.push16 v).outputs = s.outputs := by
  simp [State.push16, State.writeMem_outputs, plain, high, low]

section
variable (n : Octal) (s : State)

@[simp] theorem State.takeInterrupt_inte : (s.takeInterrupt n).inte = false := by simp [State.takeInterrupt]
@[simp] theorem State.takeInterrupt_eiShadow : (s.takeInterrupt n).eiShadow = false := by simp [State.takeInterrupt]
@[simp] theorem State.takeInterrupt_halted : (s.takeInterrupt n).halted = false := by simp [State.takeInterrupt]
@[simp] theorem State.takeInterrupt_pc : (s.takeInterrupt n).pc = restartTarget n := rfl
@[simp] theorem State.takeInterrupt_sp : (s.takeInterrupt n).sp = s.sp - 2#16 := rfl
@[simp] theorem State.takeInterrupt_flags : (s.takeInterrupt n).flags = s.flags := by simp [State.takeInterrupt]
@[simp] theorem State.takeInterrupt_reg (r : Reg8) : (s.takeInterrupt n).reg r = s.reg r := by
  cases r <;> simp [State.takeInterrupt, State.reg]
@[simp] theorem State.takeInterrupt_launch : (s.takeInterrupt n).launch = s.launch := by simp [State.takeInterrupt]
@[simp] theorem State.takeInterrupt_env : (s.takeInterrupt n).env = s.env := by simp [State.takeInterrupt]
@[simp] theorem State.takeInterrupt_inputs : (s.takeInterrupt n).inputs = s.inputs := by simp [State.takeInterrupt]
@[simp] theorem State.takeInterrupt_draws : (s.takeInterrupt n).draws = s.draws := by simp [State.takeInterrupt]
@[simp] theorem State.takeInterrupt_dma : (s.takeInterrupt n).dma = s.dma.drop 2 := by simp [State.takeInterrupt]

theorem State.takeInterrupt_pushesWord :
    pushesWord s.pc (s.withControl s.pc false false false) (s.takeInterrupt n) :=
  pushesWord_thenRegisters (platform := ⟨⟨rfl, rfl, rfl, rfl, rfl⟩, rfl⟩)

end

theorem State.takeInterrupt_outputs {n : Octal} {s : State} (plain : s.dma = [])
    (high : s.kindAt (s.sp - 1#16) ≠ .device) (low : s.kindAt (s.sp - 2#16) ≠ .device) :
    (s.takeInterrupt n).outputs = s.outputs :=
  State.push16_outputs (s := s.withControl s.pc false false false) plain high low

end Sys2Proof.Machine
end

section
/-! O44, O46, O59: the acknowledge of an interrupt, and the return from its handler (R234 to R238, R241). -/

namespace Sys2Proof.Machine

/-- Settles O44: the acknowledge uses up a slot of the bus master, and then the interrupt is taken. -/
theorem interruptEntry : Obligations.InterruptEntry := by
  intro s b later n op entry noReset request restart inte noShadow
  refine ⟨_, step_of_restart entry noReset request restart inte noShadow, by simp, by simp, by simp, ?pc, by simp,
    fun r _ => ?regs, by simp, by simp, by simp, by simp, by simp, ?dma, fun plain => ?plain⟩
  case pc => rw [State.takeInterrupt_pc, toNat_restartTarget]
  case regs => rw [State.takeInterrupt_reg, State.busSlot_reg, State.reg_withEnv]
  case dma => simp [← List.drop_one]
  case plain =>
    rw [State.busSlot_plain (s := { s with env := later }) plain]
    obtain ⟨-, -, -, cells⟩ := State.takeInterrupt_pushesWord n { s with env := later }
    obtain ⟨high, low, others⟩ := cells plain
    exact ⟨high, low, others, State.takeInterrupt_outputs (s := { s with env := later }) plain⟩

/-- Settles O46: the acknowledge admits the restart bytes alone. -/
theorem nonRestartByteIsRefused : Obligations.NonRestartByteIsRefused := by
  intro s b later op entry noReset request notRestart inte noShadow
  rw [step_of_request entry noReset request inte noShadow, State.acknowledge_other notRestart]

/-- Settles O59: RET pops the word that taking the interrupt has pushed. -/
theorem returnFromTheHandlerResumes : Obligations.ReturnFromTheHandlerResumes := by
  intro s b later n op entry noReset request restart inte noShadow plain highRam lowRam
  have accepted := step_of_restart entry noReset request restart inte noShadow
  rw [State.busSlot_plain (s := { s with env := later }) plain] at accepted
  have pushed := State.takeInterrupt_pushesWord n { s with env := later }
  obtain ⟨⟨-, sp, -⟩, regs, flags, pc, -, inteAfter, haltedAfter⟩ :=
    returnFrom_completes (State.takeInterrupt n { s with env := later })
  refine ⟨_, _, accepted, rfl, ?pc, ?sp, fun r inside => ?regs, ?flags, ?inte, ?halted⟩
  case pc => exact pc.trans (pop16_of_pushesWord pushed plain highRam lowRam)
  case sp => rw [sp, State.takeInterrupt_sp, BitVec.sub_add_cancel]
  case regs => rw [regs r inside, State.takeInterrupt_reg, State.reg_withEnv]
  case flags => rw [flags, State.takeInterrupt_flags]
  case inte => rw [inteAfter, State.takeInterrupt_inte]
  case halted => rw [haltedAfter, State.takeInterrupt_halted]

end Sys2Proof.Machine
end

section
/-! O47: the RESET pulse (R240 c, R260, R261). -/

namespace Sys2Proof.Machine

/-! ### What a RESET pulse gives and what it leaves unchanged -/

section
variable (s : State)

@[simp] theorem State.resetPulse_pc : s.resetPulse.pc = 0#16 := rfl
@[simp] theorem State.resetPulse_inte : s.resetPulse.inte = false := rfl
@[simp] theorem State.resetPulse_eiShadow : s.resetPulse.eiShadow = false := rfl
@[simp] theorem State.resetPulse_halted : s.resetPulse.halted = false := rfl
@[simp] theorem State.resetPulse_mem : s.resetPulse.mem = s.mem := rfl
@[simp] theorem State.resetPulse_launch : s.resetPulse.launch = s.launch := rfl
@[simp] theorem State.resetPulse_env : s.resetPulse.env = s.env := rfl
@[simp] theorem State.resetPulse_dma : s.resetPulse.dma = s.dma := rfl
@[simp] theorem State.resetPulse_inputs : s.resetPulse.inputs = s.inputs := rfl
@[simp] theorem State.resetPulse_outputs : s.resetPulse.outputs = s.outputs := rfl

end

/-- RESET goes before an interrupt request, a halt and the fetch (R240 c). -/
theorem State.boundaryAction_of_reset {b : Boundary} (reset : b.reset = true) (s : State) :
    s.boundaryAction b = .reset := by
  rw [State.boundaryAction, if_pos reset]

/-- A step at a boundary where RESET is pulsed uses up the entry of `env` and is the pulse alone. -/
theorem step_of_reset {s : State} {b : Boundary} {later : List Boundary} (entry : s.env = b :: later)
    (reset : b.reset = true) : step s = .next (State.resetPulse { s with env := later }) := by
  have popped : s.popBoundary = (b, { s with env := later }) := by rw [State.popBoundary, entry]
  unfold step
  rw [popped, State.boundaryAction_of_reset reset]

/-- Settles O47: the step is the pulse, which gives the four values and leaves memory and the platform as they are. -/
theorem resetPulseRestartsTheMachine : Obligations.ResetPulseRestartsTheMachine := by
  intro s b later entry reset
  have memory : (State.resetPulse { s with env := later }).mem = s.mem := State.resetPulse_mem _
  exact ⟨_, step_of_reset entry reset, by simp, by simp, by simp, by simp, storesNothing_of_mem memory, by simp, by simp,
    by simp, by simp, by simp⟩

end Sys2Proof.Machine
end
